-- ==== Sys2Proof/Word.lean ====
section
/-! DEFINITION. The widths the block uses (00_scope.md R11, R13; 10_state.md R32). -/

namespace Sys2Proof

/-- A command word, `cmd_word[31:0]` (R70). -/
abbrev Word := BitVec 32

/-- A 24-bit frequency in Hz, and the payload buffers PB and OB taken whole (R11, R50, R51). -/
abbrev Freq := BitVec 24

/-- One sample of a frame, signed 16-bit two's complement (R11, R13). -/
abbrev Sample := BitVec 16

/-- An 8-bit value: an endpoint address, a property selector, a payload byte, the sink byte, RESP. -/
abbrev Byte := BitVec 8

end Sys2Proof
end

