-- ==== Sys2Proof/Syntax.lean ====
section
/-! DEFINITION. The commands of the host command port: one constructor per row of opcode_table.json (30_encoding.md
R72). Operand widths are those of the formats S, F and C (R70, R71). -/

namespace Sys2Proof

inductive Instr where
  /-- NOP, format S, OP 0x0 (40_sample_clock.md R114). -/
  | nop
  /-- CONFIGURE, format F, OP 0x1: `FREQ24` (R105). -/
  | configure (freq : Freq)
  /-- START, format S, OP 0x2 (R110). -/
  | start
  /-- STOP, format S, OP 0x3 (R112). -/
  | stop
  /-- CTRL_SET_CUR, format C, OP 0x4: `EP`, `PROP`, `LP` (42_control_protocol.md R165). -/
  | ctrlSetCur (ep prop : Byte) (lp : Bool)
  /-- CTRL_GET_CUR, format C, OP 0x5 (R170). -/
  | ctrlGetCur (ep prop : Byte) (lp : Bool)
  /-- CTRL_OTHER, format C, OP 0x6 (R174). -/
  | ctrlOther (ep prop : Byte) (lp : Bool)
  deriving DecidableEq, Repr

end Sys2Proof
end

