-- ==== Sys2Proof/Decode.lean ====
section
/-! DEFINITION. The decoder of 30_encoding.md R75, total on every 32-bit word, and the encoder of the formats S, F and C
(R70, R79). `none` is the spec's `Illegal` (R77). -/

namespace Sys2Proof

/-- `Decode(w)` (R75). -/
def decode (w : Word) : Option Instr :=
  match (w.extractLsb 3 0).toNat with
  | 0x0 => if w.extractLsb 31 4 = 0 then some .nop else none
  | 0x1 => if w.extractLsb 7 4 = 0 then some (.configure (w.extractLsb 31 8)) else none
  | 0x2 => if w.extractLsb 31 4 = 0 then some .start else none
  | 0x3 => if w.extractLsb 31 4 = 0 then some .stop else none
  | 0x4 => if w.extractLsb 31 24 = 0 ∧ w.extractLsb 7 5 = 0
           then some (.ctrlSetCur (w.extractLsb 23 16) (w.extractLsb 15 8) (w.getLsbD 4)) else none
  | 0x5 => if w.extractLsb 31 24 = 0 ∧ w.extractLsb 7 5 = 0
           then some (.ctrlGetCur (w.extractLsb 23 16) (w.extractLsb 15 8) (w.getLsbD 4)) else none
  | 0x6 => if w.extractLsb 31 24 = 0 ∧ w.extractLsb 7 5 = 0
           then some (.ctrlOther (w.extractLsb 23 16) (w.extractLsb 15 8) (w.getLsbD 4)) else none
  | _   => none

/-- Format S: bits 31:4 zero, `OP` in 3:0 (R70). -/
def formatS (op : BitVec 4) : Word := 0#28 ++ op

/-- Format F: `FREQ24` in 31:8, bits 7:4 zero, `OP` in 3:0 (R70). -/
def formatF (freq : Freq) (op : BitVec 4) : Word := freq ++ 0#4 ++ op

/-- Format C: bits 31:24 zero, `EP` in 23:16, `PROP` in 15:8, bits 7:5 zero, `LP` in bit 4, `OP` in 3:0 (R70). -/
def formatC (ep prop : Byte) (lp : Bool) (op : BitVec 4) : Word :=
  0#8 ++ ep ++ prop ++ 0#3 ++ BitVec.ofBool lp ++ op

/-- The one word of a command (R70, R72, R79). -/
def encode : Instr → Word
  | .nop                   => formatS 0x0#4
  | .configure freq        => formatF freq 0x1#4
  | .start                 => formatS 0x2#4
  | .stop                  => formatS 0x3#4
  | .ctrlSetCur ep prop lp => formatC ep prop lp 0x4#4
  | .ctrlGetCur ep prop lp => formatC ep prop lp 0x5#4
  | .ctrlOther ep prop lp  => formatC ep prop lp 0x6#4

/-- The command read from a word as opcode_table.json numbers its bits: every row has 32 bits, one word on `cmd_word`
(R70), so the word is taken as it stands, the bits above `nbits` zero. -/
def decodeTableWord (nbits w : Nat) : Option Instr :=
  decode (BitVec.ofNat 32 (w % 2 ^ nbits))

end Sys2Proof
end

