-- ==== Sys2Proof/Config.lean ====
section
/-! DEFINITION. The implementation parameters (00_scope.md R6 to R12) and the values this model names for what
the spec leaves without one at reset. The spec leaves the parameters OPEN and says that the model takes them as an
argument; State carries them as its static configuration, so every statement holds for all of them. -/

namespace Sys2Proof

/-- An Audio Interface Descriptor (R12): static, immutable after startup. Only `endpointAddress` reaches the block; the
other fields are read by no rule. -/
structure Descriptor where
  controlInterface   : Nat
  streamingInterface : Nat
  endpointAddress    : Byte
  endpointSize       : Nat
  bankCount          : Nat
  deriving DecidableEq, Repr

/-- The static configuration of one implementation (R6 to R12, R232). -/
structure Params where
  /-- `TIMER_WIDTH`, written W (R6). -/
  timerWidth : Nat
  /-- `BASE_CLK` in Hz (R7). -/
  baseClk    : Nat
  /-- `PRESCALER` (R8). -/
  prescaler  : Nat
  /-- `INIT_FREQ` (R9). -/
  initFreq   : Freq
  /-- The host-to-device instance of the descriptor (R10, R12). -/
  playback   : Descriptor
  /-- The device-to-host instance of the descriptor (R10, R12). -/
  capture    : Descriptor
  deriving DecidableEq, Repr

namespace Params

/-- `PLAY_EP_ADDR` (R10). -/
def playEpAddr (p : Params) : Byte := p.playback.endpointAddress

/-- `CAP_EP_ADDR` (R10). -/
def capEpAddr (p : Params) : Byte := p.capture.endpointAddress

/-- The example parameter set EX of 00_scope.md section 4, "not a claim about the hardware". DESIGN CHOICE (log 1): it is
the configuration of `State.reset`, unsafe; the descriptor fields that EX does not give are 0 (log 2). -/
def ex : Params where
  timerWidth := 16
  baseClk    := 16000000
  prescaler  := 8
  initFreq   := 44100#24
  playback   := { controlInterface := 0, streamingInterface := 0, endpointAddress := 0x01#8, endpointSize := 0, bankCount := 0 }
  capture    := { controlInterface := 0, streamingInterface := 0, endpointAddress := 0x82#8, endpointSize := 0, bankCount := 0 }

end Params

namespace Config

/-- RESP after reset. The spec: unspecified (R27). DESIGN CHOICE (log 3), unsafe. -/
def respAtReset : Byte := 0#8

/-- DOUT after reset. The spec: unspecified (R28). DESIGN CHOICE (log 4), unsafe. -/
def doutAtReset : Freq := 0#24

/-- SINK_DATA after reset. The spec: unspecified (R31). DESIGN CHOICE (log 5), unsafe. -/
def sinkDataAtReset : Byte := 0#8

end Config

end Sys2Proof
end

