-- ==== Sys2Proof/Machine/Reload.lean ====
section
/-! DEFINITION. The reload function of the sample clock (40_sample_clock.md R100 to R102) and `trunc_W` (00_scope.md
R14). -/

namespace Sys2Proof.Params

/-- `K = BASE_CLK div PRESCALER` (R102). -/
def clockRatio (p : Params) : Nat := p.baseClk / p.prescaler

/-- The largest value of a W-bit register, `2^W − 1` (R101). -/
def timerMax (p : Params) : Nat := 2 ^ p.timerWidth - 1

/-- `trunc_W(v)` keeps bits W−1..0 (R14). -/
def truncW (p : Params) (v : Nat) : Nat := v % 2 ^ p.timerWidth

/-- `Reload(F) = (BASE_CLK div PRESCALER) div F − 1`, an integer that may be zero or negative; `Reload(0)` is undefined
(R100), here `none`. -/
def reload (p : Params) (f : Nat) : Option Int :=
  if f = 0 then none else some ((p.clockRatio / f : Nat) - 1)

/-- `ReloadValid(F)`: F ≥ 1 and 1 ≤ Reload(F) ≤ 2^W − 1 (R101). -/
def reloadValid (p : Params) (f : Nat) : Bool :=
  match p.reload f with
  | none   => false
  | some r => decide (1 ≤ r) && decide (r ≤ (p.timerMax : Int))

/-- The value a configuration with frequency F writes to RELOAD, `trunc_W(Reload(F))`, or `none` where it fails with
ConfigurationError (R105, R166, R230). -/
def reloadField (p : Params) (f : Nat) : Option Nat :=
  if p.reloadValid f then (p.reload f).map (fun r => p.truncW r.toNat) else none

/-- `Fmin = K div (2^W + 1) + 1` (R102). -/
def fMin (p : Params) : Nat := p.clockRatio / (2 ^ p.timerWidth + 1) + 1

/-- `Fmax = K div 2` (R102). -/
def fMax (p : Params) : Nat := p.clockRatio / 2

end Sys2Proof.Params
end

