-- ==== Sys2Proof/WellFormed.lean ====
section
/-! DEFINITION. What is well formed. A command's operands are bit vectors of exactly the widths of its format (R70), so
no term of Instr is ill formed; the checks are those of a parameter set (00_scope.md R6 to R10; 70_reset_and_hazards.md
R230). The checks of an assembler line (30_encoding.md R79) stand with the assembler. -/

namespace Sys2Proof

/-- Every term of Instr has an encoding: the operand ranges of R79 are carried by the operand types. -/
abbrev Instr.WellFormed (_ : Instr) : Prop := True

/-- A well-formed parameter set: W ≥ 2 (R6), BASE_CLK and PRESCALER positive (R7, R8), the two endpoint addresses distinct
(R10) and ReloadValid(INIT_FREQ) (R9, R230). -/
def Params.wellFormed (p : Params) : Bool :=
  decide (2 ≤ p.timerWidth) && decide (1 ≤ p.baseClk) && decide (1 ≤ p.prescaler) &&
    decide (p.playEpAddr ≠ p.capEpAddr) && p.reloadValid p.initFreq.toNat

end Sys2Proof
end

