-- ==== Sys2Proof/Machine/State.lean ====
section
/-! DEFINITION. The architectural state (10_state.md), the event history (60_exceptions.md R200, 10 R37), the reasons a
step can stop, and the state after reset (70_reset_and_hazards.md R230). All of it is plain data. -/

namespace Sys2Proof.Machine

/-- RUN (10 R25): 0 is Stopped, 1 is Running. -/
inductive RunState where
  | stopped
  | running
  deriving DecidableEq, Repr

/-- CTL_PHASE (10 R30). -/
inductive CtlPhase where
  | idle
  | setReconf
  deriving DecidableEq, Repr

/-- The outcomes the block can record, with their recorded info (60 R200); `noOutcome` is code 0. -/
inductive BlockOutcome where
  | noOutcome
  | configurationError (f : Freq)
  | frameUnavailable
  | sinkBusy (b : Byte)
  | unrecognizedRequest (ep prop : Byte)
  | illegalCommand (w : Word)
  | tickOverrun
  deriving DecidableEq, Repr

/-- One entry of the observation of a run (10 R37). In a response `dout` is `none` while DOUT has no value (10 R28). -/
inductive PortEvent where
  | accepted (cmdWord : Word) (din : Freq)
  | response (resp : Byte) (dout : Option Freq)
  | frameRead (left right : Sample)
  | sinkWrite (b : Byte)
  | recorded (o : BlockOutcome)
  deriving DecidableEq, Repr

/-- The input ports, as the environment presents them now (10 R32). `din` carries the input payload buffer PB (20 R50). -/
structure Inputs where
  rst       : Bool
  cmdValid  : Bool
  cmdWord   : Word
  din       : Freq
  tmrClkEn  : Bool
  fsAvail   : Bool
  fsLeft    : Sample
  fsRight   : Sample
  sinkReady : Bool
  deriving DecidableEq, Repr

/-- Every input line low. DESIGN CHOICE (log 6): what the environment presents right after reset is its own choice. -/
def Inputs.quiet : Inputs where
  rst := false
  cmdValid := false
  cmdWord := 0#32
  din := 0#24
  tmrClkEn := false
  fsAvail := false
  fsLeft := 0#16
  fsRight := 0#16
  sinkReady := false

/-- The output ports that present a register: `resp` (10 R27), `dout` (R28), `sink_data` (R31). -/
inductive OutputPort where
  | resp
  | dout
  | sinkData
  deriving DecidableEq, Repr

/-- Which agent takes the next step (10 R20). `env` changes the input lines; `read` is the host's read of `resp` or `dout`
or the sink's read of `sink_data`; `idle` is a step in which no agent moves. DESIGN CHOICE (log 7, 18). -/
inductive Turn where
  | ctl
  | tmr
  | isr
  | rst
  | env (lines : Inputs)
  | read (port : OutputPort)
  | idle
  deriving DecidableEq, Repr

/-- What the last configuration left between FREQ and the clock: agreement, case (b) or case (c) of 10 R36. The model's own
bookkeeping (log 15). -/
inductive Registry where
  | agrees
  | setFailed
  | configuredApart
  deriving DecidableEq, Repr

/-- What the read of an output port in the latest step gave: the value on the port, or `faulted` where the register behind
it has no value. The spec faults such a read: 70 R230 ("RESP, DOUT, SINK_DATA <- no value", "unspecified; reading faults"),
10 R27 ("a model faults such a read"), 92 D26 and 93 part 1 ("`fault` on a read before the first write"). The fault is the
read's alone, so the block goes on (60 R205; log 18). -/
inductive PortRead where
  | noRead
  | resp (b : Byte)
  | dout (f : Freq)
  | sinkData (b : Byte)
  | faulted (port : OutputPort)
  deriving DecidableEq, Repr

/-- The reasons a step stops with a fault: there are none. The block has no trap mechanism, and an outcome never changes
which step runs next (00 R15, 60 R205). Safe. -/
inductive Fault where
  deriving DecidableEq, Repr

/-- The reasons a step has no meaning. -/
inductive Refusal where
  /-- An instruction that has no meaning yet; raised by an arm of `exec` only. No arm is so at present. Safe. -/
  | notModelled (mnemonic : String)
  /-- The parameter set is ill formed: "the model refuses it" (R230). Raised by `step`; safe. -/
  | illFormedParameters
  deriving DecidableEq, Repr

/-- Everything the spec gives the block. -/
structure State where
  /-- The static configuration (70 R232). -/
  params : Params
  /-- FREQ, the frequency registry (10 R23). -/
  freq : Freq
  /-- RELOAD, W bits (10 R24). -/
  reload : Nat
  /-- RUN (10 R25). -/
  run : RunState
  /-- COUNT, W bits (10 R26). -/
  count : Nat
  /-- RESP (10 R27). -/
  resp : Byte
  /-- DOUT, the storage of OB (10 R28, 20 R51). -/
  dout : Freq
  /-- TICK_PENDING (10 R29). -/
  tickPending : Bool
  /-- CTL_PHASE (10 R30). -/
  ctlPhase : CtlPhase
  /-- SINK_DATA (10 R31). -/
  sinkData : Byte
  /-- The `resp_valid` pulse of the latest step (10 R32). -/
  respValid : Bool
  /-- The `fs_rd` pulse of the latest step (10 R32). -/
  fsRd : Bool
  /-- The `sink_we` pulse of the latest step (10 R32). -/
  sinkWe : Bool
  /-- The input ports (10 R32). -/
  inputs : Inputs
  /-- `Fcfg`, the frequency of the most recent configuration that succeeded (10 R36). -/
  fcfg : Freq
  /-- The event history, newest entry first (10 R37, 60 R200). -/
  history : List PortEvent
  /-- The outcome the latest step recorded (60 R200). The model's own field (log 14). -/
  outcome : BlockOutcome
  /-- What the latest step's read of an output port gave. The model's own field (log 18). -/
  portRead : PortRead
  /-- Whether RESP has been written since reset (70 R230). The model's own field (log 3). -/
  respHasValue : Bool
  /-- Whether DOUT has been written since reset. The model's own field (log 4). -/
  doutHasValue : Bool
  /-- Whether SINK_DATA has been written since reset. The model's own field (log 5). -/
  sinkDataHasValue : Bool
  /-- The case of 10 R36 the last configuration left. The model's own field (log 15). -/
  registry : Registry
  /-- The turns still to be taken, next one first. The model's own field (log 7). -/
  schedule : List Turn
  deriving DecidableEq, Repr

/-- The state after reset of an implementation with parameters `p` (70 R230; 10 section 9). RELOAD is
`trunc_W(Reload(INIT_FREQ))`; the last default is never used for a well-formed `p`. -/
def State.atReset (p : Params) : State where
  params := p
  freq := p.initFreq
  reload := (p.reloadField p.initFreq.toNat).getD 0
  run := .stopped
  count := 0
  resp := Config.respAtReset
  dout := Config.doutAtReset
  tickPending := false
  ctlPhase := .idle
  sinkData := Config.sinkDataAtReset
  respValid := false
  fsRd := false
  sinkWe := false
  inputs := .quiet
  fcfg := p.initFreq
  history := []
  outcome := .noOutcome
  portRead := .noRead
  respHasValue := false
  doutHasValue := false
  sinkDataHasValue := false
  registry := .agrees
  schedule := []

/-- The machine right after reset. The spec leaves the parameters open; this one state takes EX (log 1). -/
def State.reset : State := State.atReset Params.ex

end Sys2Proof.Machine
end

