-- ==== Sys2Proof/Machine/Flags.lean ====
section
/-! DEFINITION. The response byte and its fields (10_state.md R27), the only flags the block has (R33), and the outcome
codes (60_exceptions.md R200). -/

namespace Sys2Proof.Machine

/-- The bits of RESP: HANDLED in bit 0, CFGERR in bit 1, ILLEGAL in bit 2, bit 3 reads 0, OUTLEN in bits 7:4 (R27). -/
def packResp (handled cfgErr illegal : Bool) (outLen : BitVec 4) : Byte :=
  outLen ++ 0#1 ++ BitVec.ofBool illegal ++ BitVec.ofBool cfgErr ++ BitVec.ofBool handled

/-- RESP.HANDLED (R27). -/
def State.handled (s : State) : Bool := s.resp.getLsbD 0

/-- RESP.CFGERR (R27). -/
def State.cfgErr (s : State) : Bool := s.resp.getLsbD 1

/-- RESP.ILLEGAL (R27). -/
def State.illegal (s : State) : Bool := s.resp.getLsbD 2

/-- RESP bit 3, reserved, reads 0 (R27). -/
def State.respReserved (s : State) : Bool := s.resp.getLsbD 3

/-- RESP.OUTLEN (R27). -/
def State.outLen (s : State) : BitVec 4 := s.resp.extractLsb 7 4

/-- The code of an outcome in the event history (R200). -/
def BlockOutcome.code : BlockOutcome → Nat
  | .noOutcome               => 0
  | .configurationError _    => 1
  | .frameUnavailable        => 2
  | .sinkBusy _              => 3
  | .unrecognizedRequest _ _ => 4
  | .illegalCommand _        => 5
  | .tickOverrun             => 6

end Sys2Proof.Machine
end

