-- ==== Sys2Proof/Machine/Operands.lean ====
section
/-! DEFINITION. The operands of the commands: the payload buffers PB and OB and their byte order (20_memory.md R50 to
R52), and the recognition of a control request by endpoint and property (42_control_protocol.md R161, R162;
30_encoding.md R73). -/

namespace Sys2Proof.Machine

/-- Byte i of a 24-bit payload, bits 8i+7 : 8i (R50, R51). -/
def payloadByte (v : Freq) (i : Fin 3) : Byte := v.extractLsb' (8 * i.val) 8

/-- `MemRead(PB, i, 1)`: `PB[i] = din[8i+7 : 8i]` (R50; 00 R15). -/
def State.pb (s : State) (i : Fin 3) : Byte := payloadByte s.inputs.din i

/-- `OB[i] = DOUT[8i+7 : 8i]` (R51). -/
def State.ob (s : State) (i : Fin 3) : Byte := payloadByte s.dout i

/-- The DOUT register whose bytes OB[0], OB[1], OB[2] are the given ones (R51). -/
def joinBytes (b0 b1 b2 : Byte) : Freq := b2 ++ b1 ++ b0

/-- `Decode24`: byte 0 the low, byte 1 the middle, byte 2 the high 8 bits (R52). -/
def decode24 (b0 b1 b2 : Byte) : Freq :=
  b0.setWidth 24 ||| (b1.setWidth 24 <<< 8) ||| (b2.setWidth 24 <<< 16)

/-- `Encode24(f)`: the three bytes f[7:0], f[15:8], f[23:16] (R52). -/
def encode24 (f : Freq) : Byte × Byte × Byte :=
  (f.extractLsb 7 0, f.extractLsb 15 8, f.extractLsb 23 16)

/-- `Decode24(PB)` of the sampled payload (R52, R71). -/
def State.payloadFreq (s : State) : Freq := decode24 (s.pb 0) (s.pb 1) (s.pb 2)

/-- The property selector of the current sampling frequency, `SAMPLING_FREQ` (30 R73). -/
abbrev samplingFreq : Byte := 0x01#8

/-- The role of an endpoint (R162). -/
inductive Role where
  | playback
  | capture
  deriving DecidableEq, Repr

/-- The role lookup keyed by address: whole addresses are compared (R162, 00 R10). -/
def roleOf (p : Params) (ep : Byte) : Option Role :=
  if ep = p.playEpAddr then some .playback
  else if ep = p.capEpAddr then some .capture
  else none

/-- The operation of a control request (30 R72). -/
inductive CtrlOp where
  | setCur
  | getCur
  | other
  deriving DecidableEq, Repr

/-- `Recognised(op, EP, PROP)` (R161). -/
def recognised (p : Params) (op : CtrlOp) (ep prop : Byte) : Bool :=
  decide (op ≠ .other) && decide (prop = samplingFreq) && (roleOf p ep).isSome

end Sys2Proof.Machine
end

