-- ==== Sys2Proof/Machine/Ops.lean ====
section
/-! DEFINITION. The operations the steps share: `respond` and `raise` (00_scope.md R15), the handshake (10_state.md R32,
70_reset_and_hazards.md R231, R235), the writes of registers, and the entry into and the return from the tick interrupt
(60_exceptions.md R206 to R209). The block has no trap mechanism: an error is an outcome, recorded by `raise`, and never
transfers control (00 R15). -/

namespace Sys2Proof.Machine

namespace State

/-- DOUT as the host sees it: no value before its first write (10 R28, 70 R230). -/
def doutValue (s : State) : Option Freq := if s.doutHasValue then some s.dout else none

/-- Whether the register behind an output port has been written since reset. -/
def portHasValue (s : State) : OutputPort → Bool
  | .resp     => s.respHasValue
  | .dout     => s.doutHasValue
  | .sinkData => s.sinkDataHasValue

/-- What an output port presents while its register has a value (10 R27, R28, R31, R32). -/
def portValue (s : State) : OutputPort → PortRead
  | .resp     => .resp s.resp
  | .dout     => .dout s.dout
  | .sinkData => .sinkData s.sinkData

/-- The read of an output port: its value, or a faulting read where the register has none (70 R230; 10 R27; 93 part 1). No
register changes and the block goes on (20 R55, 60 R205; log 18). -/
def readPort (s : State) (port : OutputPort) : State :=
  { s with portRead := if s.portHasValue port then s.portValue port else .faulted port }

/-- `respond(HANDLED, CFGERR, ILLEGAL, OUTLEN)`: RESP is written and `resp_valid` pulses (00 R15, 10 R27, R37). -/
def respond (s : State) (handled cfgErr illegal : Bool) (outLen : BitVec 4) : State :=
  { s with
    resp := packResp handled cfgErr illegal outLen
    respValid := true
    respHasValue := true
    history := .response (packResp handled cfgErr illegal outLen) s.doutValue :: s.history }

/-- `respond(HANDLED=1, CFGERR=0, ILLEGAL=0, OUTLEN=0)`, the response 0x01 of most commands. -/
def respondHandled (s : State) : State := s.respond true false false 0#4

/-- `raise <Error>(info)`: the outcome is recorded and nothing else happens (00 R15, 60 R200, R205). -/
def raise (s : State) (o : BlockOutcome) : State :=
  { s with outcome := o, history := .recorded o :: s.history }

/-- `cmd_ready`: 1 exactly when CTL_PHASE is IDLE (10 R32), and 0 while `rst = 1` (70 R231). -/
def cmdReady (s : State) : Bool := !s.inputs.rst && decide (s.ctlPhase = .idle)

/-- Acceptance: the presented command is consumed (20 R65) and enters the history with its `cmd_word` and `din` (10 R37).
`din` keeps its value, so that the accepting step reads PB as sampled (20 R50). DEDUCED (log 10). -/
def acceptCommand (s : State) : State :=
  { s with
    inputs := { s.inputs with cmdValid := false }
    history := .accepted s.inputs.cmdWord s.inputs.din :: s.history }

/-- The timer-clock event takes one `tmr_clk_en` pulse (40 R120). DEDUCED (log 10). -/
def takeTimerPulse (s : State) : State :=
  { s with inputs := { s.inputs with tmrClkEn := false } }

/-- What every step begins with: the turn is taken off the schedule, and the pulses, the outcome and the read of the step
before are over (10 R32 "pulses for one step"). -/
def beginStep (s : State) : State :=
  { s with
    schedule := s.schedule.tail
    respValid := false
    fsRd := false
    sinkWe := false
    outcome := .noOutcome
    portRead := .noRead }

/-- A configuration that succeeds: RELOAD takes the value and `Fcfg` the frequency (40 R105, 42 R166, 10 R36). -/
def writeReload (s : State) (f : Freq) (r : Nat) (left : Registry) : State :=
  { s with reload := r, fcfg := f, registry := left }

/-- The write of FREQ (10 R23). -/
def writeFreq (s : State) (f : Freq) : State := { s with freq := f }

/-- The write of all three bytes of OB in one step (20 R51, R55). -/
def writeOB (s : State) (b : Byte × Byte × Byte) : State :=
  { s with dout := joinBytes b.1 b.2.1 b.2.2, doutHasValue := true }

/-- START from Stopped: a full period begins (40 R110). -/
def startClock (s : State) : State := { s with count := 0, tickPending := false, run := .running }

/-- Tick generation is disabled, and a pending tick is discarded (40 R112). -/
def stopClock (s : State) : State := { s with run := .stopped, tickPending := false }

/-- The counter has reached RELOAD: it returns to 0 and a tick is requested; a request while one is pending merges into it
(40 R120, 60 R204). -/
def requestTick (s : State) : State := { s with count := 0, tickPending := true }

/-- The SET window opens: CTL_PHASE becomes SET_RECONF (42 R165). -/
def openWindow (s : State) : State := { s with ctlPhase := .setReconf }

/-- The SET window closes: CTL_PHASE becomes IDLE (42 R166). -/
def closeWindow (s : State) : State := { s with ctlPhase := .idle }

/-- A configuration inside SET that failed: case (b) of 10 R36. -/
def markSetFailed (s : State) : State := { s with registry := .setFailed }

/-- The environment changes the input lines (10 R20). -/
def setInputs (s : State) (lines : Inputs) : State := { s with inputs := lines }

/-- COUNT + 1, kept to W bits (10 R26, 40 R120; log 13). -/
def countUp (s : State) : State := { s with count := s.params.truncW (s.count + 1) }

/-- Taking the tick interrupt: TICK_PENDING is cleared; nothing is saved, no mode changes, there is no handler address
(60 R206, R208). -/
def enterTick (s : State) : State := { s with tickPending := false }

/-- The end of the tick: nothing is restored (60 R209). -/
def leaveTick (s : State) : State := s

/-- `FsRead()`: `fs_rd` pulses and the frame is consumed; the pair is not retained (41 R132, 10 R21). -/
def readFrame (s : State) : State :=
  { s with fsRd := true, history := .frameRead s.inputs.fsLeft s.inputs.fsRight :: s.history }

/-- `SinkWrite(b)`: SINK_DATA takes the byte and `sink_we` pulses (41 R134). -/
def writeSink (s : State) (b : Byte) : State :=
  { s with sinkData := b, sinkDataHasValue := true, sinkWe := true, history := .sinkWrite b :: s.history }

/-- The unrecognised request (42 R163): not handled, and no state is touched. -/
def rejectRequest (s : State) (ep prop : Byte) : State :=
  (s.respond false false false 0#4).raise (.unrecognizedRequest ep prop)

end State

/-- The illegal command (30 R78): RESP says ILLEGAL, and nothing else happens. -/
def illegalCommand (w : Word) (s : State) : State :=
  (s.respond false false true 0#4).raise (.illegalCommand w)

end Sys2Proof.Machine
end

