-- ==== Sys2Proof/Machine/Control.lean ====
section
/-! DEFINITION. The sample-rate control requests (42_control_protocol.md): CTRL_SET_CUR with its two phases,
CTRL_GET_CUR and CTRL_OTHER. The order of the checks is that of 60_exceptions.md R207. -/

namespace Sys2Proof.Machine

/-- CTRL_SET_CUR, phase 1 (R163, R164, R165): a recognised SET with a payload stores any 24-bit frequency in FREQ and opens
the SET window; the response comes in phase 2. -/
def execCtrlSetCur (ep prop : Byte) (lp : Bool) (s : State) : Host.Outcome State Fault Refusal :=
  if recognised s.params .setCur ep prop then
    if lp then .next (s.writeFreq s.payloadFreq).openWindow
    else .next s.respondHandled
  else .next (s.rejectRequest ep prop)

/-- CTRL_SET_CUR, phase 2 (R166): the clock is configured with FREQ; a failure is swallowed (R167). -/
def reconfigure (s : State) : State :=
  match s.params.reloadField s.freq.toNat with
  | some r => (s.writeReload s.freq r .agrees).closeWindow.respondHandled
  | none   => (s.raise (.configurationError s.freq)).markSetFailed.closeWindow.respondHandled

/-- CTRL_GET_CUR (R163, R164, R170): OB takes the little-endian bytes of FREQ and OUTLEN is 3. -/
def execCtrlGetCur (ep prop : Byte) (lp : Bool) (s : State) : Host.Outcome State Fault Refusal :=
  if recognised s.params .getCur ep prop then
    if lp then .next ((s.writeOB (encode24 s.freq)).respond true false false 3#4)
    else .next s.respondHandled
  else .next (s.rejectRequest ep prop)

/-- CTRL_OTHER (R174): never handled, whatever EP, PROP and LP are. -/
def execCtrlOther (ep prop : Byte) (_lp : Bool) (s : State) : Host.Outcome State Fault Refusal :=
  .next (s.rejectRequest ep prop)

end Sys2Proof.Machine
end

