-- ==== Sys2Proof/Machine/SampleClock.lean ====
section
/-! DEFINITION. The sample clock (40_sample_clock.md): NOP, CONFIGURE, START, STOP and the timer-clock event. -/

namespace Sys2Proof.Machine

/-- NOP (R114): the response 0x01, nothing else. -/
def execNop (s : State) : Host.Outcome State Fault Refusal := .next s.respondHandled

/-- CONFIGURE (R105): RELOAD takes `trunc_W(Reload(f))` where f is valid; otherwise ConfigurationError, reported as
CFGERR, and RELOAD stays. FREQ, RUN, COUNT and TICK_PENDING are never written. -/
def execConfigure (f : Freq) (s : State) : Host.Outcome State Fault Refusal :=
  match s.params.reloadField f.toNat with
  | some r => .next (s.writeReload f r (if f = s.freq then .agrees else .configuredApart)).respondHandled
  | none   => .next ((s.respond true true false 0#4).raise (.configurationError f))

/-- START (R110): from Stopped a full period begins; while Running nothing changes but RESP. -/
def execStart (s : State) : Host.Outcome State Fault Refusal :=
  match s.run with
  | .stopped => .next s.startClock.respondHandled
  | .running => .next s.respondHandled

/-- STOP (R112): tick generation is disabled and a pending tick is discarded. -/
def execStop (s : State) : Host.Outcome State Fault Refusal :=
  .next s.stopClock.respondHandled

/-- The timer-clock event (R120). A request while a tick is pending merges into it, TickOverrun (60 R204). -/
def timerClock (s : State) : State :=
  match s.run with
  | .stopped => s
  | .running =>
    if s.count ≥ s.reload then
      if s.tickPending then s.requestTick.raise .tickOverrun else s.requestTick
    else s.countUp

end Sys2Proof.Machine
end

