-- ==== Sys2Proof/Machine/Dispatch.lean ====
section
/-! DEFINITION. One arm per command of opcode_table.json. -/

namespace Sys2Proof.Machine

def exec (i : Instr) (s : State) : Host.Outcome State Fault Refusal :=
  match i with
  | .nop => Sys2Proof.Machine.execNop s
  | .configure freq => Sys2Proof.Machine.execConfigure freq s
  | .start => Sys2Proof.Machine.execStart s
  | .stop => Sys2Proof.Machine.execStop s
  | .ctrlSetCur ep prop lp => Sys2Proof.Machine.execCtrlSetCur ep prop lp s
  | .ctrlGetCur ep prop lp => Sys2Proof.Machine.execCtrlGetCur ep prop lp s
  | .ctrlOther ep prop lp => Sys2Proof.Machine.execCtrlOther ep prop lp s

end Sys2Proof.Machine
end

