-- ==== Sys2Proof/Machine/Reset.lean ====
section
/-! DEFINITION. The reset step (70_reset_and_hazards.md R230, R231). -/

namespace Sys2Proof.Machine

/-- RESET (R230): every register takes its reset value, RESP, DOUT and SINK_DATA have no value, and no pulse is given. The
parameters, the input lines and the history of the run stay; a SET window is abandoned (R231). -/
def resetStep (s : State) : State :=
  { State.atReset s.params with
    inputs := s.inputs
    history := s.history
    schedule := s.schedule }

/-- RST (10 R20): while `rst = 1` the reset step is taken, whatever turn comes, so the first step after `rst` falls starts
from the reset state (R231). DEDUCED (log 21). -/
def rstTurn (s : State) : State :=
  if s.inputs.rst then resetStep s else s

end Sys2Proof.Machine
end

