-- ==== Sys2Proof/Machine/TickPipeline.lean ====
section
/-! DEFINITION. The tick pipeline (41_tick_pipeline.md): the downmixer, the bias conversion and the tick. Both shifts are
arithmetic (00_scope.md R14). -/

namespace Sys2Proof.Machine

/-- `Downmix(l, r)` (R135): truncate each channel to its high byte, add in 16 bits, halve rounding down, narrow to 8. -/
def downmix (l r : Sample) : Byte :=
  let lh : Sample := l.sshiftRight 8
  let rh : Sample := r.sshiftRight 8
  ((lh + rh).sshiftRight 1).setWidth 8

/-- `Bias(m) = m[7:0] ^ 0x80` (R138). -/
def bias (m : Byte) : Byte := m ^^^ 0x80#8

/-- `SampleByte(l, r) = Bias(Downmix(l, r))` (R139). -/
def sampleByte (l r : Sample) : Byte := bias (downmix l r)

/-- Steps 3 to 5 of the tick, after the frame has been read (R130): a sink that is not ready loses the sample. -/
def emitSample (b : Byte) (s : State) : State :=
  if s.inputs.sinkReady then s.writeSink b else s.raise (.sinkBusy b)

/-- The tick (R130), one atomic step (20 R60): without a frame the sink is not asked (60 R207). -/
def tick (s : State) : State :=
  let t := s.enterTick
  if t.inputs.fsAvail then
    (emitSample (sampleByte t.inputs.fsLeft t.inputs.fsRight) t.readFrame).leaveTick
  else (t.raise .frameUnavailable).leaveTick

end Sys2Proof.Machine
end

