-- ==== Sys2Proof/Machine/Agents.lean ====
section
/-! DEFINITION. The steps of the agents (10_state.md R20): which one moves, and what it does when its step is enabled. A
turn given to an agent whose step is not enabled changes nothing (log 9). -/

namespace Sys2Proof.Machine

/-- The turn when the schedule is used up: reset, then a pending tick, then the control domain, then the timer. A pending
tick is so taken eventually (60 R206). DESIGN CHOICE (log 8). -/
def State.freeTurn (s : State) : Turn :=
  if s.inputs.rst then .rst
  else if s.tickPending then .isr
  else if s.inputs.cmdValid || decide (s.ctlPhase = .setReconf) then .ctl
  else if s.inputs.tmrClkEn then .tmr
  else .idle

/-- The turn of the next step. -/
def State.turn (s : State) : Turn :=
  match s.schedule with
  | t :: _ => t
  | []     => s.freeTurn

/-- The accepting step: the word is decoded and run (30 R75); an illegal word has the meaning of R78. -/
def acceptTurn (s : State) : Host.Outcome State Fault Refusal :=
  match decode s.inputs.cmdWord with
  | some i => exec i s.acceptCommand
  | none   => .next (illegalCommand s.inputs.cmdWord s.acceptCommand)

/-- CTL (R20): phase 2 in the SET window (42 R166), otherwise a command is accepted where `cmd_valid` and `cmd_ready` are
both 1 (70 R235). No step while `rst = 1` (70 R231). -/
def ctlTurn (s : State) : Host.Outcome State Fault Refusal :=
  if s.inputs.rst then .next s
  else match s.ctlPhase with
    | .setReconf => .next (reconfigure s)
    | .idle      => if s.inputs.cmdValid then acceptTurn s else .next s

/-- TMR (R20): the timer-clock event of one `tmr_clk_en` pulse (40 R120). No step while `rst = 1` (70 R231). -/
def tmrTurn (s : State) : State :=
  if !s.inputs.rst && s.inputs.tmrClkEn then timerClock s.takeTimerPulse else s

/-- ISR (R20): the tick, enabled exactly when TICK_PENDING = 1 (41 R130). No step while `rst = 1` (70 R231). -/
def isrTurn (s : State) : State :=
  if !s.inputs.rst && s.tickPending then tick s else s

/-- The step of the agent whose turn it is, `rst` being low or its reset step taken. -/
def agentTurn (t : Turn) (s : State) : Host.Outcome State Fault Refusal :=
  match t with
  | .ctl       => ctlTurn s
  | .tmr       => .next (tmrTurn s)
  | .isr       => .next (isrTurn s)
  | .rst       => .next s
  | .env lines => .next (s.setInputs lines)
  | .read port => .next (s.readPort port)
  | .idle      => .next s

/-- One turn: RST comes first while `rst = 1` (70 R230, R231; log 21). -/
def takeTurn (t : Turn) (s : State) : Host.Outcome State Fault Refusal := agentTurn t (rstTurn s)

/-- The host presents the word `w` and the control domain moves next: `cmd_valid = 1`, `cmd_word = w`, `rst = 0`, CTL_PHASE
IDLE so that `cmd_ready = 1` (10 R32, 70 R235; log 17). -/
def State.presentWord (s : State) (w : Word) : State :=
  { s with
    inputs := { s.inputs with rst := false, cmdValid := true, cmdWord := w }
    ctlPhase := .idle
    schedule := .ctl :: s.schedule }

end Sys2Proof.Machine
end

