-- ==== Sys2Proof/Machine/Step.lean ====
section
/-! DEFINITION. One step of the block: one atomic step of one agent (00_scope.md R16, 10_state.md R20). -/

namespace Sys2Proof.Machine

/-- One step. An ill-formed parameter set is refused (70 R230). -/
def step (s : State) : Host.Outcome State Fault Refusal :=
  if s.params.wellFormed then takeTurn s.turn s.beginStep
  else .refused .illFormedParameters

/-- `s` with the command whose bits are `w` presented on the command port, to be accepted by the next step. -/
def State.withFetchWord (s : State) (nbits w : Nat) : State :=
  s.presentWord (BitVec.ofNat 32 (w % 2 ^ nbits))

end Sys2Proof.Machine
end

