-- ==== Sys2Proof/Machine/Assembler.lean ====
section
/-! DEFINITION. The textual syntax and the pseudo-commands (30_encoding.md R79, R80): a line and the `cmd_word` and `din`
it presents. Numbers are naturals, as written; the checks are R79's ranges. -/

namespace Sys2Proof.Machine

/-- One line of the syntax of R79, or a pseudo-command of R80. -/
inductive AsmLine where
  | nop
  | start
  | stop
  | configure (f : Nat)
  | ctrlSetCur (ep prop f : Nat)
  | ctrlSetCurP (ep prop : Nat)
  | ctrlGetCur (ep prop : Nat)
  | ctrlGetCurP (ep prop : Nat)
  | ctrlOther (ep prop : Nat)
  | ctrlOtherP (ep prop : Nat)
  | word (w : Nat)
  | connect
  | disconnect
  | configChanged
  | setFreq (ep f : Nat)
  | getFreq (ep : Nat)
  | probeSet (ep : Nat)
  | probeGet (ep : Nat)
  deriving DecidableEq, Repr

/-- What a line presents on the command port; `din` where the line gives one. -/
structure Presented where
  cmdWord : Word
  din     : Option Freq
  deriving DecidableEq, Repr

namespace AsmLine

/-- The expansions of R80; every other line stands for itself. -/
def expand : AsmLine → AsmLine
  | connect       => start
  | disconnect    => stop
  | configChanged => nop
  | setFreq ep f  => ctrlSetCur ep 0x01 f
  | getFreq ep    => ctrlGetCur ep 0x01
  | probeSet ep   => ctrlSetCurP ep 0x01
  | probeGet ep   => ctrlGetCurP ep 0x01
  | line          => line

/-- R79: `f` is 0 to 16777215, `ep` and `prop` 0 to 255, and `.word w` a 32-bit word. -/
def wellFormed : AsmLine → Bool
  | nop | start | stop | connect | disconnect | configChanged => true
  | configure f         => decide (f ≤ 16777215)
  | ctrlSetCur ep prop f => decide (ep ≤ 255) && decide (prop ≤ 255) && decide (f ≤ 16777215)
  | ctrlSetCurP ep prop | ctrlGetCur ep prop | ctrlGetCurP ep prop | ctrlOther ep prop | ctrlOtherP ep prop =>
    decide (ep ≤ 255) && decide (prop ≤ 255)
  | word w              => decide (w < 2 ^ 32)
  | setFreq ep f        => decide (ep ≤ 255) && decide (f ≤ 16777215)
  | getFreq ep | probeSet ep | probeGet ep => decide (ep ≤ 255)

/-- The command a line spells, `none` for `.word`. -/
def command : AsmLine → Option Instr
  | nop | configChanged    => some .nop
  | start | connect        => some .start
  | stop | disconnect      => some .stop
  | configure f            => some (.configure (BitVec.ofNat 24 f))
  | ctrlSetCur ep prop _   => some (.ctrlSetCur (BitVec.ofNat 8 ep) (BitVec.ofNat 8 prop) true)
  | ctrlSetCurP ep prop    => some (.ctrlSetCur (BitVec.ofNat 8 ep) (BitVec.ofNat 8 prop) false)
  | ctrlGetCur ep prop     => some (.ctrlGetCur (BitVec.ofNat 8 ep) (BitVec.ofNat 8 prop) true)
  | ctrlGetCurP ep prop    => some (.ctrlGetCur (BitVec.ofNat 8 ep) (BitVec.ofNat 8 prop) false)
  | ctrlOther ep prop      => some (.ctrlOther (BitVec.ofNat 8 ep) (BitVec.ofNat 8 prop) true)
  | ctrlOtherP ep prop     => some (.ctrlOther (BitVec.ofNat 8 ep) (BitVec.ofNat 8 prop) false)
  | setFreq ep _           => some (.ctrlSetCur (BitVec.ofNat 8 ep) samplingFreq true)
  | getFreq ep             => some (.ctrlGetCur (BitVec.ofNat 8 ep) samplingFreq true)
  | probeSet ep            => some (.ctrlSetCur (BitVec.ofNat 8 ep) samplingFreq false)
  | probeGet ep            => some (.ctrlGetCur (BitVec.ofNat 8 ep) samplingFreq false)
  | word _                 => none

/-- The word of format C as R79 writes it, `{0x00, ep, prop, low}`. -/
def wordC (ep prop : Nat) (low : Byte) : Word :=
  0x00#8 ++ BitVec.ofNat 8 ep ++ BitVec.ofNat 8 prop ++ low

/-- `din = Encode24(f)`: the payload whose bytes are those of f (R79, 20 R52). -/
def payload (f : Nat) : Freq :=
  let b := encode24 (BitVec.ofNat 24 f)
  joinBytes b.1 b.2.1 b.2.2

/-- The encoding column of R79, for a line that stands for itself; `none` for a pseudo-command. -/
def encodeLine : AsmLine → Option Presented
  | nop                  => some { cmdWord := 0x00000000#32, din := none }
  | start                => some { cmdWord := 0x00000002#32, din := none }
  | stop                 => some { cmdWord := 0x00000003#32, din := none }
  | configure f          => some { cmdWord := BitVec.ofNat 24 f ++ 0x01#8, din := none }
  | ctrlSetCur ep prop f => some { cmdWord := wordC ep prop 0x14#8, din := some (payload f) }
  | ctrlSetCurP ep prop  => some { cmdWord := wordC ep prop 0x04#8, din := none }
  | ctrlGetCur ep prop   => some { cmdWord := wordC ep prop 0x15#8, din := none }
  | ctrlGetCurP ep prop  => some { cmdWord := wordC ep prop 0x05#8, din := none }
  | ctrlOther ep prop    => some { cmdWord := wordC ep prop 0x16#8, din := none }
  | ctrlOtherP ep prop   => some { cmdWord := wordC ep prop 0x06#8, din := none }
  | word w               => some { cmdWord := BitVec.ofNat 32 w, din := none }
  | connect | disconnect | configChanged => none
  | setFreq _ _ | getFreq _ | probeSet _ | probeGet _ => none

/-- Assembling a line: refused where it is ill formed, else what its expansion presents (R79, R80). -/
def assemble (line : AsmLine) : Option Presented :=
  if line.wellFormed then line.expand.encodeLine else none

end AsmLine

end Sys2Proof.Machine
end

