-- ==== Sys2Proof/Safety.lean ====
section
/-! DEFINITION. The terms the statements use: what a step takes, runs, the invariant of the block (10_state.md R36, with
the facts of R24 to R29 and 40 R121), and the premise WindowShort (20_memory.md R61). -/

namespace Sys2Proof.Machine

namespace State

/-- The next step is a step of the block's own agents or the environment with `rst = 0`, under well-formed parameters. -/
abbrev Live (s : State) : Prop := s.params.wellFormed = true ∧ s.inputs.rst = false

/-- The next step accepts the command word on the port: the control domain moves, `cmd_valid = 1` and `cmd_ready = 1` (70
R235). -/
abbrev AcceptsWord (s : State) : Prop :=
  s.Live ∧ s.turn = .ctl ∧ s.cmdReady = true ∧ s.inputs.cmdValid = true

/-- The next step accepts and runs the command `i`. -/
abbrev Accepts (s : State) (i : Instr) : Prop := s.AcceptsWord ∧ decode s.inputs.cmdWord = some i

/-- The next step accepts an illegal word. -/
abbrev AcceptsIllegal (s : State) : Prop := s.AcceptsWord ∧ decode s.inputs.cmdWord = none

/-- The next step is phase 2 of CTRL_SET_CUR (42 R166). -/
abbrev TakesPhase2 (s : State) : Prop := s.Live ∧ s.turn = .ctl ∧ s.ctlPhase = .setReconf

/-- The next step is a timer-clock event (40 R120). -/
abbrev TakesTimerClock (s : State) : Prop := s.Live ∧ s.turn = .tmr ∧ s.inputs.tmrClkEn = true

/-- The next step is a tick (41 R130). -/
abbrev TakesTick (s : State) : Prop := s.Live ∧ s.turn = .isr ∧ s.tickPending = true

/-- The next turn reads an output port (10 R32). -/
abbrev ReadsOutput (s : State) : Prop :=
  s.turn = .read .resp ∨ s.turn = .read .dout ∨ s.turn = .read .sinkData

/-- The next step is taken under reset (70 R230). -/
abbrev TakesReset (s : State) : Prop :=
  s.params.wellFormed = true ∧ s.inputs.rst = true

/-- EP is one of the two streaming endpoints and PROP the sampling frequency (42 R161). -/
abbrev Addresses (s : State) (ep prop : Byte) : Prop :=
  prop = 0x01#8 ∧ (ep = s.params.playEpAddr ∨ ep = s.params.capEpAddr)

/-- The state after the response `b` has been given and nothing else has happened (10 R27, R32, R37). -/
def answered (s : State) (b : Byte) : State :=
  { s with
    resp := b
    respValid := true
    respHasValue := true
    history := .response b s.doutValue :: s.history }

/-- The state after the outcome `o` has been recorded and nothing else has happened (00 R15, 60 R200). -/
def recorded (s : State) (o : BlockOutcome) : State :=
  { s with outcome := o, history := .recorded o :: s.history }

/-- A step of the timer domain or of the environment: no command, no phase 2 and no reset. -/
abbrev TimerDomain (s : State) : Prop :=
  s.inputs.rst = false ∧ (s.turn = .tmr ∨ s.turn = .isr ∨ s.turn = .idle ∨ ∃ lines, s.turn = .env lines)

/-- The invariant of the block. -/
structure Inv (s : State) : Prop where
  /-- The parameters are well formed (R6 to R10, R230). -/
  params_wellFormed : s.params.wellFormed = true
  /-- `RELOAD = Reload(Fcfg)` at every step, and so RELOAD is a legal value, 1 to 2^W − 1 (R24, R36). -/
  reload_of_fcfg : s.params.reloadField s.fcfg.toNat = some s.reload
  /-- `FREQ = Fcfg` outside the three exceptions of R36. -/
  freq_agrees : s.ctlPhase = .idle → s.registry = .agrees → s.freq = s.fcfg
  /-- Exception (b) of R36: FREQ holds a frequency that the clock cannot realise. -/
  freq_setFailed : s.ctlPhase = .idle → s.registry = .setFailed → s.params.reloadValid s.freq.toNat = false
  /-- Exception (c) of R36: the clock was configured with another frequency. -/
  freq_apart : s.ctlPhase = .idle → s.registry = .configuredApart → s.freq ≠ s.fcfg
  /-- COUNT never exceeds 2^W − 1 (R26, 40 R120). -/
  count_fits : s.count < 2 ^ s.params.timerWidth
  /-- No tick is pending while the clock is stopped (40 R121). -/
  stopped_no_tick : s.run = .stopped → s.tickPending = false
  /-- Bit 3 of a response reads 0 (R27). -/
  resp_reserved : s.respHasValue = true → s.respReserved = false
  /-- A response pulse comes with a value in RESP (R27, R32). -/
  resp_pulse : s.respValid = true → s.respHasValue = true
  /-- DOUT has a value only after some response (R28). -/
  dout_after_resp : s.doutHasValue = true → s.respHasValue = true
  /-- A sink write comes with a frame read and leaves a value in SINK_DATA (41 R134, R142). -/
  sink_pulse : s.sinkWe = true → s.fsRd = true ∧ s.sinkDataHasValue = true

end State

/-- A run from the first state to the second, each step of it taken from a state where `P` holds. -/
inductive RunWhere (P : State → Prop) : State → State → Prop where
  | refl (s : State) : RunWhere P s s
  | step {s t u : State} : RunWhere P s t → P t → step t = .next u → RunWhere P s u

/-- How many ticks the first n steps from `s` take inside the SET window that is open at `s` (20 R61, 70 R234). -/
def ticksInWindow : Nat → State → Nat
  | 0, _ => 0
  | n + 1, s =>
    if s.ctlPhase = .setReconf then
      (if s.TakesTick then 1 else 0) +
        (match step s with
         | .next t => ticksInWindow n t
         | .fault _ => 0
         | .refused _ => 0)
    else 0

/-- The named premise `WindowShort` of 20 R61 for the runs from `s`: no two ticks run while CTL_PHASE is SET_RECONF. The
machine does not enforce it (log 20). -/
def WindowShort (s : State) : Prop :=
  ∀ t, RunWhere (fun _ => True) s t → ∀ n, ticksInWindow n t ≤ 1

/-- How many ticks the first n steps from `s` take. -/
def ticksTaken : Nat → State → Nat
  | 0, _ => 0
  | n + 1, s =>
    (if s.TakesTick then 1 else 0) +
      (match step s with
       | .next t => ticksTaken n t
       | .fault _ => 0
       | .refused _ => 0)

/-- Whether an entry of the history is a sink write (10 R37). -/
def PortEvent.isSinkWrite : PortEvent → Bool
  | .sinkWrite _ => true
  | .accepted _ _ | .response _ _ | .frameRead _ _ | .recorded _ => false

/-- Whether an entry of the history is a frame read (10 R37). -/
def PortEvent.isFrameRead : PortEvent → Bool
  | .frameRead _ _ => true
  | .accepted _ _ | .response _ _ | .sinkWrite _ | .recorded _ => false

/-- The sink writes of the run so far. -/
def State.sinkWrites (s : State) : Nat := s.history.countP PortEvent.isSinkWrite

/-- The frame reads of the run so far. -/
def State.frameReads (s : State) : Nat := s.history.countP PortEvent.isFrameRead

/-- A safe run: n steps from `s` meet neither a fault nor a refusal. -/
def SafeFor (n : Nat) (s : State) : Prop := ∃ t, Host.Core.run core n s = .next t

end Sys2Proof.Machine
end

