-- ==== Sys2Proof/Certificates/Slice0/Obligations.lean ====
section
/-! DEFINITION. The statements about the block, for the provers. Each docstring names the rule it formalises. -/

open Sys2Proof Sys2Proof.Machine

/-! ### Encoding (30_encoding.md) -/

/-- R70, R75, R79: every command is read back from its word, with every operand at every value. -/
def Obligations.DecodeOfEncodeIsTheCommand : Prop := ∀ i : Instr, decode (encode i) = some i

/-- R70, R77: a word that decodes is the one spelling of its command. -/
def Obligations.DecodedWordIsTheEncodedOne : Prop :=
  ∀ (w : Word) (i : Instr), decode w = some i → encode i = w

/-- R77: the reserved encodings are exactly the illegal words, and NOP is the one word 0. -/
def Obligations.ReservedEncodingsAreIllegal : Prop :=
  ∀ w : Word,
    (decode w = none ↔
      7 ≤ w.toNat % 16 ∨
      ((w.toNat % 16 = 0 ∨ w.toNat % 16 = 2 ∨ w.toNat % 16 = 3) ∧ w.toNat / 16 ≠ 0) ∨
      (w.toNat % 16 = 1 ∧ w.toNat / 16 % 16 ≠ 0) ∨
      ((w.toNat % 16 = 4 ∨ w.toNat % 16 = 5 ∨ w.toNat % 16 = 6) ∧
        (w.toNat / 16777216 ≠ 0 ∨ w.toNat / 32 % 8 ≠ 0))) ∧
    (decode w = some .nop ↔ w = 0#32)

/-- Words written out in R78, R79 and 95_test_vectors.md, and what they stand for. -/
def Obligations.WrittenOutWordsDecode : Prop :=
  decode 0x00000000#32 = some .nop ∧
  decode 0x00BB8001#32 = some (.configure 48000#24) ∧
  decode 0x00000002#32 = some .start ∧
  decode 0x00000003#32 = some .stop ∧
  decode 0x00010114#32 = some (.ctrlSetCur 0x01#8 0x01#8 true) ∧
  decode 0x00010104#32 = some (.ctrlSetCur 0x01#8 0x01#8 false) ∧
  decode 0x00820115#32 = some (.ctrlGetCur 0x82#8 0x01#8 true) ∧
  decode 0x00018216#32 = some (.ctrlOther 0x01#8 0x82#8 true) ∧
  decode 0x00000010#32 = none ∧ decode 0x000000F1#32 = none ∧ decode 0x80000002#32 = none ∧
  decode 0x00010134#32 = none ∧ decode 0x01010114#32 = none ∧ decode 0xFFFFFFFF#32 = none

/-- R79, R80: every well-formed line of the syntax that names a command presents a word of that command, and a SET line
presents its frequency on `din`. -/
def Obligations.AssembledLineDecodesToItsCommand : Prop :=
  ∀ (line : AsmLine) (i : Instr), line.wellFormed = true → line.command = some i →
    ∃ p, line.assemble = some p ∧ decode p.cmdWord = some i ∧
      ∀ ep prop f, line.expand = .ctrlSetCur ep prop f → p.din = some (BitVec.ofNat 24 f)

/-- R80: the pseudo-commands and their expansions. -/
def Obligations.PseudoCommandsExpand : Prop :=
  AsmLine.connect.assemble = AsmLine.start.assemble ∧
  AsmLine.disconnect.assemble = AsmLine.stop.assemble ∧
  AsmLine.configChanged.assemble = AsmLine.nop.assemble ∧
  ∀ ep f, (AsmLine.setFreq ep f).assemble = (AsmLine.ctrlSetCur ep 0x01 f).assemble ∧
    (AsmLine.getFreq ep).assemble = (AsmLine.ctrlGetCur ep 0x01).assemble ∧
    (AsmLine.probeSet ep).assemble = (AsmLine.ctrlSetCurP ep 0x01).assemble ∧
    (AsmLine.probeGet ep).assemble = (AsmLine.ctrlGetCurP ep 0x01).assemble

/-! ### The reload function (40_sample_clock.md) -/

/-- R100: `Reload(F)` for F ≥ 1, its agreement with the single division, and that it may be zero or negative;
`Reload(0)` is undefined. -/
def Obligations.ReloadIsTheQuotientLessOne : Prop :=
  ∀ p : Params, p.reload 0 = none ∧
    ∀ f : Nat, 1 ≤ f →
      p.reload f = some (((p.baseClk / p.prescaler / f : Nat) : Int) - 1) ∧
      p.baseClk / p.prescaler / f = p.baseClk / (p.prescaler * f)

/-- R101: `ReloadValid(F)` by the reload value and, equivalently, by the quotient; F = 0 is not valid. -/
def Obligations.ReloadValidBounds : Prop :=
  ∀ (p : Params) (f : Nat),
    (p.reloadValid f = true ↔
      1 ≤ f ∧ ∃ r : Int, p.reload f = some r ∧ 1 ≤ r ∧ r ≤ ((2 ^ p.timerWidth : Nat) : Int) - 1) ∧
    (p.reloadValid f = true ↔
      1 ≤ f ∧ 2 ≤ p.baseClk / p.prescaler / f ∧ p.baseClk / p.prescaler / f ≤ 2 ^ p.timerWidth) ∧
    p.reloadValid 0 = false

/-- R102: the valid frequencies form one interval, `Fmin` to `Fmax`; under EX 31 to 1000000. -/
def Obligations.ValidFrequenciesFormOneInterval : Prop :=
  (∀ (p : Params) (f : Nat), p.reloadValid f = true ↔
    p.baseClk / p.prescaler / (2 ^ p.timerWidth + 1) + 1 ≤ f ∧ f ≤ p.baseClk / p.prescaler / 2) ∧
  (∀ f : Nat, Params.ex.reloadValid f = true ↔ 31 ≤ f ∧ f ≤ 1000000)

/-! ### The commands of the sample clock -/

/-- R114: NOP is the word 0, is what Configuration-Changed expands to, and answers 0x01 with nothing else changed. -/
def Obligations.NopOnlyAnswers : Prop :=
  encode .nop = 0x00000000#32 ∧
  AsmLine.configChanged.assemble = some { cmdWord := 0x00000000#32, din := none } ∧
  ∀ s : State, exec .nop s = .next (s.answered 0x01#8)

/-- R105, R36: a CONFIGURE with a valid frequency completes, writes RELOAD (and with it Fcfg) and answers 0x01; every other
register, FREQ, RUN, COUNT, TICK_PENDING and DOUT among them, stays. The clauses on `registry` speak of the model's own
bookkeeping field (log 15, DESIGN CHOICE). -/
def Obligations.ConfigureProgramsTheClock : Prop :=
  ∀ (s : State) (f : Freq), s.params.reloadValid f.toNat = true →
    ∃ t, exec (.configure f) s = .next t ∧
      t.reload + 1 = s.params.baseClk / s.params.prescaler / f.toNat ∧
      (t.registry = .agrees ↔ f = s.freq) ∧ t.registry ≠ .setFailed ∧
      t = { s.answered 0x01#8 with reload := t.reload, fcfg := f, registry := t.registry }

/-- R105, R201: a CONFIGURE with an invalid frequency answers 0x03, records ConfigurationError and changes nothing else. -/
def Obligations.ConfigureRejectsInvalidFrequency : Prop :=
  ∀ (s : State) (f : Freq), s.params.reloadValid f.toNat = false →
    exec (.configure f) s = .next ((s.answered 0x03#8).recorded (.configurationError f))

/-- R106: CONFIGURE twice is CONFIGURE once, whatever timer-clock events, ticks and line changes run between. -/
def Obligations.ConfigureIsIdempotent : Prop :=
  ∀ (s a b c : State) (f : Freq),
    exec (.configure f) s = .next a → RunWhere State.TimerDomain a b → exec (.configure f) b = .next c →
      c.reload = a.reload ∧ c.reload = b.reload ∧ c.run = b.run ∧ c.count = b.count ∧
      c.tickPending = b.tickPending ∧ c.freq = b.freq ∧ b.freq = s.freq ∧ c.resp = a.resp

/-- R110: START from Stopped begins a full period; START while Running only answers. -/
def Obligations.StartBeginsAPeriod : Prop :=
  ∀ s : State,
    (s.run = .stopped →
      exec .start s = .next { s.answered 0x01#8 with count := 0, tickPending := false, run := .running }) ∧
    (s.run = .running → exec .start s = .next (s.answered 0x01#8))

/-- R112: STOP clears RUN and TICK_PENDING and answers; COUNT, RELOAD, FREQ and the rest stay. -/
def Obligations.StopDiscardsThePendingTick : Prop :=
  ∀ s : State, exec .stop s = .next { s.answered 0x01#8 with run := .stopped, tickPending := false }

/-! ### The control requests (42_control_protocol.md) -/

/-- R165: phase 1 of a recognised SET with a payload stores the payload, whatever it is, and opens the window; there is no
response yet and nothing else changes. -/
def Obligations.SetStoresThePayload : Prop :=
  ∀ (s : State) (ep prop : Byte), s.Addresses ep prop →
    exec (.ctrlSetCur ep prop true) s = .next { s with freq := s.inputs.din, ctlPhase := .setReconf }

/-- R163: an unrecognised SET or GET and every CTRL_OTHER is not handled and touches nothing, whatever LP is. -/
def Obligations.UnrecognisedRequestTouchesNothing : Prop :=
  ∀ (s : State) (ep prop : Byte) (lp : Bool),
    exec (.ctrlOther ep prop lp) s = .next ((s.answered 0x00#8).recorded (.unrecognizedRequest ep prop)) ∧
    (¬ s.Addresses ep prop →
      exec (.ctrlSetCur ep prop lp) s = .next ((s.answered 0x00#8).recorded (.unrecognizedRequest ep prop)) ∧
      exec (.ctrlGetCur ep prop lp) s = .next ((s.answered 0x00#8).recorded (.unrecognizedRequest ep prop)))

/-- R164: a probe, SET-shaped or GET-shaped, answers 0x01 and touches nothing. -/
def Obligations.ProbeTouchesNothing : Prop :=
  ∀ (s : State) (ep prop : Byte), s.Addresses ep prop →
    exec (.ctrlSetCur ep prop false) s = .next (s.answered 0x01#8) ∧
    exec (.ctrlGetCur ep prop false) s = .next (s.answered 0x01#8)

/-- R170, R51, R52: a recognised GET with a buffer puts FREQ into OB, low byte first, answers 0x31 and changes nothing
else. -/
def Obligations.GetReportsTheRegistry : Prop :=
  ∀ (s : State) (ep prop : Byte), s.Addresses ep prop →
    ∃ t, exec (.ctrlGetCur ep prop true) s = .next t ∧
      (t.ob 0).toNat = s.freq.toNat % 256 ∧ (t.ob 1).toNat = s.freq.toNat / 256 % 256 ∧
      (t.ob 2).toNat = s.freq.toNat / 65536 ∧ t.outLen = 3#4 ∧ t.dout = s.freq ∧
      t = { s with
            dout := t.dout, doutHasValue := true, resp := 0x31#8, respValid := true, respHasValue := true,
            history := .response 0x31#8 (some s.freq) :: s.history }

/-- R174: CTRL_OTHER, its word, and that it is never handled, even with PROP 0x01 and a recognised EP. -/
def Obligations.CtrlOtherIsNeverHandled : Prop :=
  ∀ (s : State) (ep prop : Byte) (lp : Bool),
    (encode (.ctrlOther ep prop lp)).toNat = ep.toNat * 65536 + prop.toNat * 256 + lp.toNat * 16 + 6 ∧
    ∃ t, exec (.ctrlOther ep prop lp) s = .next t ∧ t.resp = 0x00#8 ∧ t.handled = false ∧
      t.outcome = .unrecognizedRequest ep prop ∧
      t = { s with
            resp := t.resp, respValid := true, respHasValue := true, outcome := t.outcome, history := t.history }

/-- R162: the role lookup by address, and that both roles act alike on the one registry and the one clock. -/
def Obligations.BothEndpointsActAlike : Prop :=
  ∀ (s : State) (lp : Bool), s.params.wellFormed = true →
    roleOf s.params s.params.playEpAddr = some .playback ∧
    roleOf s.params s.params.capEpAddr = some .capture ∧
    exec (.ctrlSetCur s.params.capEpAddr 0x01#8 lp) s = exec (.ctrlSetCur s.params.playEpAddr 0x01#8 lp) s ∧
    exec (.ctrlGetCur s.params.capEpAddr 0x01#8 lp) s = exec (.ctrlGetCur s.params.playEpAddr 0x01#8 lp) s

/-- R175: what RESP says after a control command that answers: HANDLED exactly for a recognised SET or GET, CFGERR and
ILLEGAL never. -/
def Obligations.HandledExactlyWhenRecognised : Prop :=
  ∀ (s t : State) (ep prop : Byte) (lp : Bool) (i : Instr),
    (i = .ctrlSetCur ep prop lp ∨ i = .ctrlGetCur ep prop lp ∨ i = .ctrlOther ep prop lp) →
    exec i s = .next t → t.ctlPhase = s.ctlPhase → s.ctlPhase = .idle →
      (t.handled = true ↔ i ≠ .ctrlOther ep prop lp ∧ s.Addresses ep prop) ∧
      t.cfgErr = false ∧ t.illegal = false ∧ t.respReserved = false

/-! ### All commands -/

/-- Every command completes from every state: no command faults and none is refused (00 R15, 60 R200). -/
def Obligations.EveryCommandCompletes : Prop := ∀ (i : Instr) (s : State), ∃ t, exec i s = .next t

/-- The frame of the commands: what each register keeps, but for the commands named (10 R23 to R31, 40 R105 to R114, 42
R163 to R174). -/
def Obligations.CommandsChangeOnlyTheirRegisters : Prop :=
  ∀ (i : Instr) (s t : State), exec i s = .next t →
    t.params = s.params ∧ t.inputs = s.inputs ∧ t.schedule = s.schedule ∧
    t.sinkData = s.sinkData ∧ t.sinkDataHasValue = s.sinkDataHasValue ∧ t.fsRd = s.fsRd ∧ t.sinkWe = s.sinkWe ∧
    t.portRead = s.portRead ∧
    ((¬ ∃ ep prop, i = .ctrlSetCur ep prop true ∧ s.Addresses ep prop) →
      t.freq = s.freq ∧ t.ctlPhase = s.ctlPhase ∧ t.respValid = true ∧ t.respHasValue = true) ∧
    ((∃ ep prop, i = .ctrlSetCur ep prop true ∧ s.Addresses ep prop) →
      t.resp = s.resp ∧ t.respValid = s.respValid ∧ t.history = s.history ∧ t.outcome = s.outcome) ∧
    ((¬ ∃ f, i = .configure f ∧ s.params.reloadValid f.toNat = true) →
      t.reload = s.reload ∧ t.fcfg = s.fcfg ∧ t.registry = s.registry) ∧
    (i ≠ .start → i ≠ .stop → t.run = s.run ∧ t.tickPending = s.tickPending) ∧
    (¬ (i = .start ∧ s.run = .stopped) → t.count = s.count) ∧
    (i = .start → s.run = .running → t.run = s.run ∧ t.tickPending = s.tickPending) ∧
    ((¬ ∃ ep prop, i = .ctrlGetCur ep prop true ∧ s.Addresses ep prop) →
      t.dout = s.dout ∧ t.doutHasValue = s.doutHasValue ∧ ∀ k, t.ob k = s.ob k)

/-! ### Steps of the control domain -/

/-- A step in which a command is accepted (70 R235) runs the decoded command on the state in which the pulses of the step
before are over and the acceptance is in the history (10 R32, R37). The model's choices: that consuming the command (20
R65) lowers the input line `cmd_valid` (log 10, DEDUCED), the schedule (log 7), the history and the outcome as fields of
State (log 14), and that a read of an output port is over after its step (log 18). -/
def Obligations.StepRunsTheDecodedCommand : Prop :=
  ∀ (s : State) (i : Instr), s.Accepts i →
    step s = exec i { s with
      schedule := s.schedule.tail
      respValid := false
      fsRd := false
      sinkWe := false
      outcome := .noOutcome
      portRead := .noRead
      inputs := { s.inputs with cmdValid := false }
      history := .accepted s.inputs.cmdWord s.inputs.din :: s.history }

/-- R78: an accepted illegal word answers 0x04, records IllegalCommand, and no other state changes. -/
def Obligations.IllegalWordOnlyAnswers : Prop :=
  (∀ s : State, s.AcceptsIllegal →
    ∃ t, step s = .next t ∧ t.resp = 0x04#8 ∧ t.respValid = true ∧
      t.outcome = .illegalCommand s.inputs.cmdWord ∧
      t.freq = s.freq ∧ t.reload = s.reload ∧ t.run = s.run ∧ t.count = s.count ∧
      t.tickPending = s.tickPending ∧ t.ctlPhase = s.ctlPhase ∧ t.dout = s.dout ∧
      t.sinkData = s.sinkData ∧ t.fcfg = s.fcfg ∧ t.registry = s.registry ∧ t.fsRd = false ∧ t.sinkWe = false ∧
      t.history = .recorded (.illegalCommand s.inputs.cmdWord) :: .response 0x04#8 s.doutValue ::
        .accepted s.inputs.cmdWord s.inputs.din :: s.history) ∧
  decode 0x00000007#32 = none ∧ decode 0xFFFFFFFF#32 = none ∧ decode 0x00000010#32 = none

/-- R167, with the effect of phase 2 (R166): it always completes with HANDLED = 1 and CFGERR = 0, valid or not. A valid FREQ
programs the clock (R36: Fcfg follows); an invalid one leaves RELOAD and is recorded only. No command is accepted in the
step. The clauses on `registry` speak of the model's own bookkeeping field (log 15, DESIGN CHOICE). -/
def Obligations.FailedSetIsSwallowed : Prop :=
  ∀ s : State, s.TakesPhase2 →
    ∃ t, step s = .next t ∧ t.resp = 0x01#8 ∧ t.handled = true ∧ t.cfgErr = false ∧ t.respValid = true ∧
      t.ctlPhase = .idle ∧ t.freq = s.freq ∧ t.run = s.run ∧ t.count = s.count ∧ t.tickPending = s.tickPending ∧
      t.dout = s.dout ∧ t.sinkData = s.sinkData ∧ t.inputs = s.inputs ∧
      (s.params.reloadValid s.freq.toNat = true →
        t.reload + 1 = s.params.baseClk / s.params.prescaler / s.freq.toNat ∧ t.fcfg = s.freq ∧
        t.registry = .agrees ∧ t.outcome = .noOutcome) ∧
      (s.params.reloadValid s.freq.toNat = false →
        t.reload = s.reload ∧ t.fcfg = s.fcfg ∧ t.registry = .setFailed ∧
        t.outcome = .configurationError s.freq)

/-- R171: SET with a payload, then (after its phase 2) GET returns the payload byte for byte, through either endpoint and
whatever ticks and timer-clock events run between. -/
def Obligations.SetThenGetRoundTrip : Prop :=
  ∀ (s s1 s2 s3 s4 s5 : State) (ep ep' : Byte),
    s.Addresses ep 0x01#8 → s.Addresses ep' 0x01#8 →
    s.Accepts (.ctrlSetCur ep 0x01#8 true) → step s = .next s1 →
    RunWhere State.TimerDomain s1 s2 → s2.TakesPhase2 → step s2 = .next s3 →
    RunWhere State.TimerDomain s3 s4 → s4.Accepts (.ctrlGetCur ep' 0x01#8 true) → step s4 = .next s5 →
      s5.dout = s.inputs.din ∧ (∀ k, s5.ob k = s.pb k) ∧ s5.resp = 0x31#8 ∧ s5.freq = s.inputs.din

/-! ### Steps of the timer domain -/

/-- R120: the timer-clock event, with the merge of R204; nothing but COUNT, TICK_PENDING and the taken pulse changes. That
the event lowers the input line `tmr_clk_en` is the model's choice (log 10, DEDUCED). -/
def Obligations.TimerClockEventCounts : Prop :=
  ∀ s : State, s.TakesTimerClock → s.reload < 2 ^ s.params.timerWidth →
    ∃ t, step s = .next t ∧
      (s.run = .stopped → t.count = s.count ∧ t.tickPending = s.tickPending ∧ t.outcome = .noOutcome) ∧
      (s.run = .running → s.reload ≤ s.count →
        t.count = 0 ∧ t.tickPending = true ∧
        t.outcome = if s.tickPending then .tickOverrun else .noOutcome) ∧
      (s.run = .running → s.count < s.reload →
        t.count = s.count + 1 ∧ t.tickPending = s.tickPending ∧ t.outcome = .noOutcome) ∧
      t = { s with
            count := t.count, tickPending := t.tickPending, outcome := t.outcome, history := t.history,
            inputs := { s.inputs with tmrClkEn := false }, schedule := s.schedule.tail,
            respValid := false, fsRd := false, sinkWe := false, portRead := .noRead }

/-- R121: while Stopped the timer-clock event changes nothing, and no tick runs between a STOP and the next START. -/
def Obligations.NoTickBetweenStopAndStart : Prop :=
  (∀ s : State, s.run = .stopped → timerClock s = s) ∧
  ∀ s a t : State, exec .stop s = .next a → RunWhere (fun u => ¬ u.Accepts .start) a t →
    t.run = .stopped ∧ t.tickPending = false ∧ ¬ t.TakesTick

/-- R122, with R103: from any COUNT and RELOAD, the current period ends when COUNT reaches RELOAD, or at the next event
where COUNT is already there or above; every later period has RELOAD + 1 events. -/
def Obligations.ReloadRulesThePeriod : Prop :=
  ∀ s : State, s.run = .running → s.reload < 2 ^ s.params.timerWidth →
    (∀ n, n ≤ s.reload - s.count →
      (timerClock^[n] s).count = s.count + n ∧ (timerClock^[n] s).tickPending = s.tickPending) ∧
    ∀ n, (timerClock^[s.reload - s.count + 1 + n] s).count = n % (s.reload + 1) ∧
      (timerClock^[s.reload - s.count + 1 + n] s).tickPending = true

/-- R130: the tick, in its three cases; R207: without a frame the sink is not asked. -/
def Obligations.TickMovesOneFrame : Prop :=
  ∀ s : State, s.TakesTick →
    ∃ t, step s = .next t ∧ t.tickPending = false ∧
      (s.inputs.fsAvail = false →
        t.fsRd = false ∧ t.sinkWe = false ∧ t.sinkData = s.sinkData ∧ t.outcome = .frameUnavailable) ∧
      (s.inputs.fsAvail = true → s.inputs.sinkReady = true →
        t.fsRd = true ∧ t.sinkWe = true ∧ t.sinkData = sampleByte s.inputs.fsLeft s.inputs.fsRight ∧
        t.outcome = .noOutcome ∧
        t.history = .sinkWrite t.sinkData :: .frameRead s.inputs.fsLeft s.inputs.fsRight :: s.history) ∧
      (s.inputs.fsAvail = true → s.inputs.sinkReady = false →
        t.fsRd = true ∧ t.sinkWe = false ∧ t.sinkData = s.sinkData ∧
        t.outcome = .sinkBusy (sampleByte s.inputs.fsLeft s.inputs.fsRight))

/-- R143: the tick neither writes nor reads FREQ, RELOAD, RUN, COUNT, CTL_PHASE, RESP and DOUT: two ticks that see the same
lines give the same outputs whatever those registers hold. -/
def Obligations.TickIsBlindToTheControlDomain : Prop :=
  (∀ s t : State, s.TakesTick → step s = .next t →
    t.freq = s.freq ∧ t.reload = s.reload ∧ t.run = s.run ∧ t.count = s.count ∧ t.ctlPhase = s.ctlPhase ∧
    t.resp = s.resp ∧ t.dout = s.dout ∧ t.respValid = false ∧ t.inputs = s.inputs ∧ t.params = s.params ∧
    t.fcfg = s.fcfg ∧ t.registry = s.registry ∧ t.tickPending = false) ∧
  ∀ s s' t t' : State, s.TakesTick → s'.TakesTick →
    s.inputs.fsAvail = s'.inputs.fsAvail → s.inputs.fsLeft = s'.inputs.fsLeft →
    s.inputs.fsRight = s'.inputs.fsRight → s.inputs.sinkReady = s'.inputs.sinkReady → s.sinkData = s'.sinkData →
    step s = .next t → step s' = .next t' →
      t.sinkData = t'.sinkData ∧ t.fsRd = t'.fsRd ∧ t.sinkWe = t'.sinkWe ∧ t.outcome = t'.outcome ∧
      t.tickPending = t'.tickPending

/-- R142: per step at most one `fs_rd` and one `sink_we` pulse, `sink_we` only with `fs_rd`, both only in a tick; so in a
run the sink writes never exceed the ticks taken. -/
def Obligations.SinkWritesNeverExceedTicks : Prop :=
  (∀ s t : State, step s = .next t →
    (t.sinkWe = true → t.fsRd = true) ∧ (t.fsRd = true → s.TakesTick) ∧
    t.sinkWrites = s.sinkWrites + (if t.sinkWe then 1 else 0) ∧
    t.frameReads = s.frameReads + (if t.fsRd then 1 else 0)) ∧
  ∀ (n : Nat) (s t : State), Host.Core.run core n s = .next t → t.sinkWrites ≤ s.sinkWrites + ticksTaken n s

/-! ### Downmix, bias and the payload codec -/

/-- R139: the sample byte as integers. -/
def Obligations.SampleByteAsIntegers : Prop :=
  ∀ l r : Sample, ((sampleByte l r).toNat : Int) = (l.toInt / 256 + r.toInt / 256) / 2 + 128

/-- R137: no intermediate of the downmix overflows, with its extremes. -/
def Obligations.DownmixNeverOverflows : Prop :=
  (∀ l r : Sample,
    -128 ≤ (l.sshiftRight 8).toInt ∧ (l.sshiftRight 8).toInt ≤ 127 ∧
    (l.sshiftRight 8 + r.sshiftRight 8).toInt = (l.sshiftRight 8).toInt + (r.sshiftRight 8).toInt ∧
    -256 ≤ (l.sshiftRight 8).toInt + (r.sshiftRight 8).toInt ∧
    (l.sshiftRight 8).toInt + (r.sshiftRight 8).toInt ≤ 254 ∧
    (downmix l r).toInt = (l.toInt / 256 + r.toInt / 256) / 2) ∧
  downmix 0x8000#16 0x8000#16 = 0x80#8 ∧ downmix 0x7FFF#16 0x7FFF#16 = 0x7F#8

/-- R136, with R135's corner cases: truncation comes before averaging, and an odd sum rounds down. -/
def Obligations.TruncationComesBeforeAveraging : Prop :=
  downmix 0x01FF#16 0x00FF#16 = 0#8 ∧ downmix 0xFF00#16 0x0000#16 = 0xFF#8 ∧
  downmix 0x0100#16 0x0000#16 = 0#8 ∧ downmix 0x7F00#16 0x7F00#16 = 0x7F#8 ∧
  (511 + 255) / 2 / 256 = (1 : Int)

/-- R138: the bias adds 128, and is a bijection from signed to unsigned bytes. -/
def Obligations.BiasIsABijection : Prop :=
  Function.Bijective bias ∧
  (∀ m : Byte, ((bias m).toNat : Int) = m.toInt + 128 ∧ bias m = m ^^^ 0x80#8) ∧
  bias 0x00#8 = 0x80#8 ∧ bias 0x80#8 = 0x00#8 ∧ bias 0x7F#8 = 0xFF#8 ∧ bias 0xFF#8 = 0x7F#8

/-- R52: the frequency is little-endian in both payload buffers. -/
def Obligations.PayloadIsLittleEndian : Prop :=
  (∀ b0 b1 b2 : Byte, (decode24 b0 b1 b2).toNat = b0.toNat + b1.toNat * 256 + b2.toNat * 65536) ∧
  ∀ f : Freq, (encode24 f).1.toNat = f.toNat % 256 ∧ (encode24 f).2.1.toNat = f.toNat / 256 % 256 ∧
    (encode24 f).2.2.toNat = f.toNat / 65536 ∧
    decode24 (encode24 f).1 (encode24 f).2.1 (encode24 f).2.2 = f

/-! ### Reset (70_reset_and_hazards.md) -/

/-- R230: the reset step, the faulting reads before there is a value, and the refusal of an ill-formed parameter set. The
model's choices: a read is a turn of its own, whose fault is the read's alone, so the block goes on (log 18, DESIGN
CHOICE), a read with `rst = 1` faults whatever the register held (log 21, DEDUCED), and an ill-formed set is refused at every step, not at reset alone (log 16, DEDUCED). -/
def Obligations.ResetStepSetsTheRegisters : Prop :=
  (∀ s : State, s.TakesReset →
    ∃ t, step s = .next t ∧ t.freq = s.params.initFreq ∧
      t.reload + 1 = s.params.baseClk / s.params.prescaler / s.params.initFreq.toNat ∧
      t.run = .stopped ∧ t.count = 0 ∧ t.tickPending = false ∧ t.ctlPhase = .idle ∧
      t.respHasValue = false ∧ t.doutHasValue = false ∧ t.sinkDataHasValue = false ∧
      t.respValid = false ∧ t.fsRd = false ∧ t.sinkWe = false) ∧
  (∀ (s : State) (port : OutputPort), s.params.wellFormed = true → s.turn = .read port →
    s.portHasValue port = false ∨ s.inputs.rst = true → ∃ t, step s = .next t ∧ t.portRead = .faulted port) ∧
  (∀ s : State, s.params.reloadValid s.params.initFreq.toNat = false → step s = .refused .illFormedParameters)

/-- R231: while `rst = 1` nothing but the reset step happens, whoever's turn it is: no command is ready, no response is
given, a SET window is abandoned, and the state in which `rst` falls is the reset state, whatever RESP, DOUT and SINK_DATA
hold in it. The model's choices: every turn with `rst = 1` takes the reset step first, and an environment turn resets and
changes the lines in one step, and so does a read, which faults (log 21, DEDUCED); the history of the run survives reset
(log 14, DESIGN CHOICE). -/
def Obligations.ResetExcludesEveryOtherStep : Prop :=
  ∀ s t : State, s.inputs.rst = true → step s = .next t →
    s.cmdReady = false ∧
    t = { State.atReset s.params with
          resp := t.resp, dout := t.dout, sinkData := t.sinkData, portRead := t.portRead,
          inputs := t.inputs, history := s.history, schedule := s.schedule.tail } ∧
    (t.inputs = s.inputs ∨ s.turn = .env t.inputs) ∧
    (t.portRead = .noRead ∨ ∃ port, s.turn = .read port ∧ t.portRead = .faulted port)

/-- R27, R28, R31, R55: a read of an output port completes, gives the value of the register behind it, or faults where that
has none, and changes nothing but the turn and the pulses. The model's choices: a read is a turn of its own, and its fault
does not stop the block (log 18, DESIGN CHOICE); DOUT can be read after a later response with OUTLEN 0, where
R28 calls it valid only when the last response had OUTLEN 3 (log 4, DEDUCED); SINK_DATA can be read after the `sink_we`
pulse, where R31 calls it valid only during the pulse (log 5, DEDUCED). -/
def Obligations.OutputReadsGiveTheValueOrFault : Prop :=
  ∀ s : State, s.Live → s.ReadsOutput →
    ∃ t, step s = .next t ∧
      t = { s with
            schedule := s.schedule.tail, respValid := false, fsRd := false, sinkWe := false, outcome := .noOutcome,
            portRead := t.portRead } ∧
      (s.turn = .read .resp → t.portRead = if s.respHasValue then .resp s.resp else .faulted .resp) ∧
      (s.turn = .read .dout → t.portRead = if s.doutHasValue then .dout s.dout else .faulted .dout) ∧
      (s.turn = .read .sinkData →
        t.portRead = if s.sinkDataHasValue then .sinkData s.sinkData else .faulted .sinkData)

/-! ### Whole-machine rules -/

/-- R23: FREQ is written only by reset and by phase 1 of a recognised SET with a payload, in the window or not. -/
def Obligations.RegistryHasTwoWriters : Prop :=
  ∀ s t : State, step s = .next t →
    t.freq = s.freq ∨
    (s.inputs.rst = true ∧ t.freq = s.params.initFreq) ∨
    (∃ ep prop, s.Accepts (.ctrlSetCur ep prop true) ∧ s.Addresses ep prop ∧
      t.freq = s.inputs.din ∧ t.ctlPhase = .setReconf)

/-- R24, R36: RELOAD and Fcfg change together, only by reset, a successful CONFIGURE and a successful phase 2. -/
def Obligations.ReloadHasThreeWriters : Prop :=
  ∀ s t : State, step s = .next t →
    (t.reload = s.reload ∧ t.fcfg = s.fcfg) ∨
    (s.inputs.rst = true ∧ s.params.reloadField s.params.initFreq.toNat = some t.reload ∧
      t.fcfg = s.params.initFreq) ∨
    (∃ f, s.Accepts (.configure f) ∧ s.params.reloadField f.toNat = some t.reload ∧ t.fcfg = f) ∨
    (s.TakesPhase2 ∧ s.params.reloadField s.freq.toNat = some t.reload ∧ t.fcfg = s.freq)

/-- R25, 60 R206: RUN becomes Running only by an accepted START and Stopped only by an accepted STOP or by reset. -/
def Obligations.OnlyStartAndStopMoveTheRunState : Prop :=
  ∀ s t : State, step s = .next t →
    (s.run = .stopped → t.run = .running → s.Accepts .start) ∧
    (s.run = .running → t.run = .stopped → s.Accepts .stop ∨ s.inputs.rst = true)

/-- R26, R29, R30: COUNT, TICK_PENDING and CTL_PHASE have no writers but the steps those rules name; every other step, an
environment turn and an idle turn among them, leaves them. -/
def Obligations.CounterTickAndPhaseHaveNamedWriters : Prop :=
  ∀ s t : State, step s = .next t →
    (t.count = s.count ∨
      (s.TakesTimerClock ∧ s.run = .running ∧
        t.count = if s.reload ≤ s.count then 0 else s.params.truncW (s.count + 1)) ∨
      (s.Accepts .start ∧ s.run = .stopped ∧ t.count = 0) ∨
      (s.inputs.rst = true ∧ t.count = 0)) ∧
    (t.tickPending = s.tickPending ∨
      (s.TakesTimerClock ∧ s.run = .running ∧ s.reload ≤ s.count ∧ t.tickPending = true) ∨
      (s.TakesTick ∧ t.tickPending = false) ∨
      (s.Accepts .start ∧ s.run = .stopped ∧ t.tickPending = false) ∨
      (s.Accepts .stop ∧ t.tickPending = false) ∨
      (s.inputs.rst = true ∧ t.tickPending = false)) ∧
    (t.ctlPhase = s.ctlPhase ∨
      (∃ ep prop, s.Accepts (.ctrlSetCur ep prop true) ∧ s.Addresses ep prop ∧ t.ctlPhase = .setReconf) ∨
      (s.TakesPhase2 ∧ t.ctlPhase = .idle) ∨
      (s.inputs.rst = true ∧ t.ctlPhase = .idle))

/-- R20, R32: with `rst = 0` a turn in which no agent's step is enabled completes and changes no register; an environment
turn changes the input lines, to any values, and nothing else does. Turns that do nothing are the model's choice (log 7,
log 9, DESIGN CHOICE). -/
def Obligations.TurnsWithNoStepChangeNoRegister : Prop :=
  ∀ s : State, s.Live → ¬ s.AcceptsWord → ¬ s.TakesPhase2 → ¬ s.TakesTimerClock → ¬ s.TakesTick → ¬ s.ReadsOutput →
    ∃ t, step s = .next t ∧
      t = { s with
            inputs := t.inputs, schedule := s.schedule.tail, respValid := false, fsRd := false, sinkWe := false,
            outcome := .noOutcome, portRead := .noRead } ∧
      (∀ lines, s.turn = .env lines → t.inputs = lines) ∧
      ((∀ lines, s.turn ≠ .env lines) → t.inputs = s.inputs)

/-- R28, R31, R51: DOUT is written only by a recognised GET with a buffer, SINK_DATA only by a tick that writes the sink;
reset apart. -/
def Obligations.OutputRegistersHaveOneWriterEach : Prop :=
  ∀ s t : State, s.inputs.rst = false → step s = .next t →
    ((t.dout = s.dout ∧ t.doutHasValue = s.doutHasValue) ∨
      (∃ ep prop, s.Accepts (.ctrlGetCur ep prop true) ∧ s.Addresses ep prop ∧
        t.dout = s.freq ∧ t.doutHasValue = true)) ∧
    ((t.sinkData = s.sinkData ∧ t.sinkDataHasValue = s.sinkDataHasValue ∧ t.sinkWe = false) ∨
      (s.TakesTick ∧ t.sinkWe = true ∧ t.sinkDataHasValue = true ∧
        t.sinkData = sampleByte s.inputs.fsLeft s.inputs.fsRight))

/-- R27, R32: `resp_valid` pulses exactly in the step that completes a command, and RESP changes in no other step, reset
apart. -/
def Obligations.ResponsePulsesOncePerCommand : Prop :=
  ∀ s t : State, s.inputs.rst = false → step s = .next t →
    (t.respValid = true ↔
      s.TakesPhase2 ∨
      (s.AcceptsWord ∧ ¬ ∃ ep prop, s.Accepts (.ctrlSetCur ep prop true) ∧ s.Addresses ep prop)) ∧
    (t.respValid = false → t.resp = s.resp) ∧
    (t.respHasValue = true ↔ s.respHasValue = true ∨ t.respValid = true)

/-- R36: outside the SET window FREQ and Fcfg differ only where they differed before, in a phase 2 whose reconfiguration
failed (b), or in a CONFIGURE that succeeded with an operand other than FREQ (c); and (b) and (c) do part them. -/
def Obligations.RegistryAndClockPartOnlyAsStated : Prop :=
  ∀ s t : State, s.Inv → step s = .next t →
    (t.ctlPhase = .idle → t.freq ≠ t.fcfg →
      (s.ctlPhase = .idle ∧ s.freq ≠ s.fcfg) ∨
      (s.TakesPhase2 ∧ s.params.reloadValid s.freq.toNat = false) ∨
      ∃ f, s.Accepts (.configure f) ∧ s.params.reloadValid f.toNat = true ∧ f ≠ s.freq) ∧
    (s.TakesPhase2 → s.params.reloadValid s.freq.toNat = false → t.freq ≠ t.fcfg) ∧
    (∀ f, s.Accepts (.configure f) → s.params.reloadValid f.toNat = true → f ≠ s.freq → t.freq ≠ t.fcfg)

/-- The bookkeeping field `registry` takes the value of case (b) or (c) of R36 only in the step that the case names. The
field is the model's own (log 15, DESIGN CHOICE); what it says of FREQ and Fcfg is part of `Inv`. -/
def Obligations.RegistryCaseIsSetOnlyByItsStep : Prop :=
  ∀ s t : State, step s = .next t →
    (t.registry = .setFailed →
      s.registry = .setFailed ∨ (s.TakesPhase2 ∧ s.params.reloadValid s.freq.toNat = false)) ∧
    (t.registry = .configuredApart →
      s.registry = .configuredApart ∨
      ∃ f, s.Accepts (.configure f) ∧ s.params.reloadValid f.toNat = true ∧ f ≠ s.freq)

/-- R232: the static configuration never changes, along any run. -/
def Obligations.ConfigurationNeverChanges : Prop :=
  ∀ s t : State, RunWhere (fun _ => True) s t → t.params = s.params

/-- R37: the history of a run only grows; a step adds at its newest end. -/
def Obligations.HistoryOnlyGrows : Prop :=
  ∀ s t : State, RunWhere (fun _ => True) s t → ∃ new, t.history = new ++ s.history

/-- 10 R27, 70 R230, 93 part 1: over all steps a read faults exactly where an output port is read whose register has no
value, not written since reset or under reset. The model's choices: a read is a turn of its own (log 18, DESIGN CHOICE);
under reset no register behind an output port has a value (log 21, DEDUCED); and once written a register has a value until
reset, so that no fault comes from a read of DOUT after a later response with OUTLEN 0, where R28 calls it valid only when
the last response had OUTLEN 3 (log 4, DEDUCED), nor from a read of SINK_DATA after the `sink_we` pulse, where R31 calls it
valid only during the pulse (log 5, DEDUCED). -/
def Obligations.ReadsFaultExactlyWithoutValue : Prop :=
  ∀ (s t : State) (port : OutputPort), step s = .next t →
    (t.portRead = .faulted port ↔
      s.turn = .read port ∧ (s.portHasValue port = false ∨ s.inputs.rst = true)) ∧
    (t.portRead ≠ .noRead ↔ s.ReadsOutput)

/-- 00 R15, 60 R205, 70 R230: nothing stops the block but parameters that are ill formed; with well-formed ones it takes every
step, and runs of every length, whatever the schedule. The model's choices: every set outside R6 to R10 is refused, at
every step (log 16, DEDUCED), and a read that faults does not stop the block (log 18, DESIGN CHOICE). -/
def Obligations.OnlyIllFormedParametersStopTheBlock : Prop :=
  (∀ (s : State) (r : Refusal), step s = .refused r ↔ s.params.wellFormed = false ∧ r = .illFormedParameters) ∧
  (∀ s : State, s.params.wellFormed = true → ∃ t, step s = .next t) ∧
  (∀ (n : Nat) (s : State), s.params.wellFormed = true → SafeFor n s)

/-- The invariant holds after reset, for every well-formed parameter set (70 R230, R36). -/
def Obligations.InvariantHoldsAtReset : Prop :=
  ∀ p : Params, p.wellFormed = true → (State.atReset p).Inv

/-- Every step keeps the invariant: `RELOAD = Reload(Fcfg)` always, `FREQ = Fcfg` but for the exceptions of R36, RELOAD and
COUNT within W bits (R24, R26), no tick pending while Stopped (R121), bit 3 of RESP zero (R27), `sink_we` only with
`fs_rd` (R142). -/
def Obligations.EveryStepKeepsTheInvariant : Prop :=
  ∀ s t : State, s.Inv → step s = .next t → t.Inv

/-- R206: a pending tick is taken. After at most as many steps as the schedule has turns the run is in a state where it is
still pending and whose next step takes it, unless that step discards it by STOP, by START from Stopped or by reset; the
step is taken, and after it no tick is pending. That the tick comes first when the schedule is used up
is the model's choice (log 8, DESIGN CHOICE). -/
def Obligations.PendingTickIsTakenEventually : Prop :=
  ∀ s : State, s.params.wellFormed = true → s.tickPending = true →
    ∃ n u, n ≤ s.schedule.length ∧ Host.Core.run core n s = .next u ∧ u.tickPending = true ∧
      (u.TakesTick ∨ u.Accepts .stop ∨ (u.run = .stopped ∧ u.Accepts .start) ∨ u.inputs.rst = true) ∧
      ∃ t, step u = .next t ∧ t.tickPending = false

/-- R61: the machine admits any number of ticks inside one SET window, so `WindowShort` is a premise and not a theorem. -/
def Obligations.WindowAdmitsAnyNumberOfTicks : Prop :=
  (∀ k : Nat, ∃ s : State, s.Inv ∧ s.ctlPhase = .setReconf ∧ ∃ n, ticksInWindow n s = k) ∧
  ∃ s : State, s.Inv ∧ ¬ WindowShort s
end

