-- ==== Sys2Proof/Laws/Decode.lean ====
section
/-! SUPPORT. The formats and the fields of a command word as numbers (30_encoding.md R70, R71), for the statements about
the decoder and the encoder. -/

namespace Sys2Proof

/-- `w[hi:lo]` as a number, n = hi − lo + 1 bits. -/
theorem toNat_field (w : Word) (hi lo n : Nat) (hn : hi - lo + 1 = n) :
    (w.extractLsb hi lo).toNat = w.toNat / 2 ^ lo % 2 ^ n := by
  subst hn
  simp [BitVec.extractLsb, BitVec.extractLsb'_toNat, Nat.shiftRight_eq_div_pow]

/-- `w[i]` as a number. -/
theorem toNat_bit (w : Word) (i : Nat) : (w.getLsbD i).toNat = w.toNat / 2 ^ i % 2 := by
  have h : w.getLsbD i = decide (w.toNat / 2 ^ i % 2 = 1) := by
    simp [BitVec.getLsbD, Nat.testBit_eq_decide_div_mod_eq]
  rw [h]
  rcases Nat.mod_two_eq_zero_or_one (w.toNat / 2 ^ i) with h0 | h1 <;> simp [*]

theorem toNat_formatS (op : BitVec 4) : (formatS op).toNat = op.toNat := by
  simp only [formatS, BitVec.toNat_append]
  simp

theorem toNat_formatF (f : Freq) (op : BitVec 4) : (formatF f op).toNat = f.toNat * 256 + op.toNat := by
  simp only [formatF, BitVec.toNat_append]
  rw [← Nat.shiftLeft_add_eq_or_of_lt (by simpa using op.isLt), ← Nat.shiftLeft_add_eq_or_of_lt (by simp)]
  simp only [Nat.shiftLeft_eq, BitVec.toNat_ofNat]
  ring

theorem toNat_formatC (ep prop : Byte) (lp : Bool) (op : BitVec 4) :
    (formatC ep prop lp op).toNat = ep.toNat * 65536 + prop.toNat * 256 + lp.toNat * 16 + op.toNat := by
  simp only [formatC, BitVec.toNat_append]
  rw [← Nat.shiftLeft_add_eq_or_of_lt (by simpa using op.isLt),
    ← Nat.shiftLeft_add_eq_or_of_lt (by cases lp <;> simp),
    ← Nat.shiftLeft_add_eq_or_of_lt (by simp),
    ← Nat.shiftLeft_add_eq_or_of_lt (by simpa using prop.isLt),
    ← Nat.shiftLeft_add_eq_or_of_lt (by simpa using ep.isLt)]
  simp only [Nat.shiftLeft_eq, BitVec.toNat_ofNat, BitVec.toNat_ofBool]
  ring

end Sys2Proof
end

