-- ==== Sys2Proof/Laws/State.lean ====
section
/-! SUPPORT. One lemma per field of State and per shared operation, and per field of the reset step, each true by rfl. -/

namespace Sys2Proof.Machine.State

variable (s : State)

@[simp] theorem respond_params (h c i : Bool) (n : BitVec 4) : (s.respond h c i n).params = s.params := rfl
@[simp] theorem respond_freq (h c i : Bool) (n : BitVec 4) : (s.respond h c i n).freq = s.freq := rfl
@[simp] theorem respond_reload (h c i : Bool) (n : BitVec 4) : (s.respond h c i n).reload = s.reload := rfl
@[simp] theorem respond_run (h c i : Bool) (n : BitVec 4) : (s.respond h c i n).run = s.run := rfl
@[simp] theorem respond_count (h c i : Bool) (n : BitVec 4) : (s.respond h c i n).count = s.count := rfl
@[simp] theorem respond_resp (h c i : Bool) (n : BitVec 4) : (s.respond h c i n).resp = packResp h c i n := rfl
@[simp] theorem respond_dout (h c i : Bool) (n : BitVec 4) : (s.respond h c i n).dout = s.dout := rfl
@[simp] theorem respond_tickPending (h c i : Bool) (n : BitVec 4) : (s.respond h c i n).tickPending = s.tickPending := rfl
@[simp] theorem respond_ctlPhase (h c i : Bool) (n : BitVec 4) : (s.respond h c i n).ctlPhase = s.ctlPhase := rfl
@[simp] theorem respond_sinkData (h c i : Bool) (n : BitVec 4) : (s.respond h c i n).sinkData = s.sinkData := rfl
@[simp] theorem respond_respValid (h c i : Bool) (n : BitVec 4) : (s.respond h c i n).respValid = true := rfl
@[simp] theorem respond_fsRd (h c i : Bool) (n : BitVec 4) : (s.respond h c i n).fsRd = s.fsRd := rfl
@[simp] theorem respond_sinkWe (h c i : Bool) (n : BitVec 4) : (s.respond h c i n).sinkWe = s.sinkWe := rfl
@[simp] theorem respond_inputs (h c i : Bool) (n : BitVec 4) : (s.respond h c i n).inputs = s.inputs := rfl
@[simp] theorem respond_fcfg (h c i : Bool) (n : BitVec 4) : (s.respond h c i n).fcfg = s.fcfg := rfl
@[simp] theorem respond_history (h c i : Bool) (n : BitVec 4) : (s.respond h c i n).history = .response (packResp h c i n) s.doutValue :: s.history := rfl
@[simp] theorem respond_outcome (h c i : Bool) (n : BitVec 4) : (s.respond h c i n).outcome = s.outcome := rfl
@[simp] theorem respond_respHasValue (h c i : Bool) (n : BitVec 4) : (s.respond h c i n).respHasValue = true := rfl
@[simp] theorem respond_doutHasValue (h c i : Bool) (n : BitVec 4) : (s.respond h c i n).doutHasValue = s.doutHasValue := rfl
@[simp] theorem respond_sinkDataHasValue (h c i : Bool) (n : BitVec 4) : (s.respond h c i n).sinkDataHasValue = s.sinkDataHasValue := rfl
@[simp] theorem respond_registry (h c i : Bool) (n : BitVec 4) : (s.respond h c i n).registry = s.registry := rfl
@[simp] theorem respond_schedule (h c i : Bool) (n : BitVec 4) : (s.respond h c i n).schedule = s.schedule := rfl
@[simp] theorem respond_portRead (h c i : Bool) (n : BitVec 4) : (s.respond h c i n).portRead = s.portRead := rfl

@[simp] theorem raise_params (o : BlockOutcome) : (s.raise o).params = s.params := rfl
@[simp] theorem raise_freq (o : BlockOutcome) : (s.raise o).freq = s.freq := rfl
@[simp] theorem raise_reload (o : BlockOutcome) : (s.raise o).reload = s.reload := rfl
@[simp] theorem raise_run (o : BlockOutcome) : (s.raise o).run = s.run := rfl
@[simp] theorem raise_count (o : BlockOutcome) : (s.raise o).count = s.count := rfl
@[simp] theorem raise_resp (o : BlockOutcome) : (s.raise o).resp = s.resp := rfl
@[simp] theorem raise_dout (o : BlockOutcome) : (s.raise o).dout = s.dout := rfl
@[simp] theorem raise_tickPending (o : BlockOutcome) : (s.raise o).tickPending = s.tickPending := rfl
@[simp] theorem raise_ctlPhase (o : BlockOutcome) : (s.raise o).ctlPhase = s.ctlPhase := rfl
@[simp] theorem raise_sinkData (o : BlockOutcome) : (s.raise o).sinkData = s.sinkData := rfl
@[simp] theorem raise_respValid (o : BlockOutcome) : (s.raise o).respValid = s.respValid := rfl
@[simp] theorem raise_fsRd (o : BlockOutcome) : (s.raise o).fsRd = s.fsRd := rfl
@[simp] theorem raise_sinkWe (o : BlockOutcome) : (s.raise o).sinkWe = s.sinkWe := rfl
@[simp] theorem raise_inputs (o : BlockOutcome) : (s.raise o).inputs = s.inputs := rfl
@[simp] theorem raise_fcfg (o : BlockOutcome) : (s.raise o).fcfg = s.fcfg := rfl
@[simp] theorem raise_history (o : BlockOutcome) : (s.raise o).history = .recorded o :: s.history := rfl
@[simp] theorem raise_outcome (o : BlockOutcome) : (s.raise o).outcome = o := rfl
@[simp] theorem raise_respHasValue (o : BlockOutcome) : (s.raise o).respHasValue = s.respHasValue := rfl
@[simp] theorem raise_doutHasValue (o : BlockOutcome) : (s.raise o).doutHasValue = s.doutHasValue := rfl
@[simp] theorem raise_sinkDataHasValue (o : BlockOutcome) : (s.raise o).sinkDataHasValue = s.sinkDataHasValue := rfl
@[simp] theorem raise_registry (o : BlockOutcome) : (s.raise o).registry = s.registry := rfl
@[simp] theorem raise_schedule (o : BlockOutcome) : (s.raise o).schedule = s.schedule := rfl
@[simp] theorem raise_portRead (o : BlockOutcome) : (s.raise o).portRead = s.portRead := rfl

@[simp] theorem acceptCommand_params : (s.acceptCommand).params = s.params := rfl
@[simp] theorem acceptCommand_freq : (s.acceptCommand).freq = s.freq := rfl
@[simp] theorem acceptCommand_reload : (s.acceptCommand).reload = s.reload := rfl
@[simp] theorem acceptCommand_run : (s.acceptCommand).run = s.run := rfl
@[simp] theorem acceptCommand_count : (s.acceptCommand).count = s.count := rfl
@[simp] theorem acceptCommand_resp : (s.acceptCommand).resp = s.resp := rfl
@[simp] theorem acceptCommand_dout : (s.acceptCommand).dout = s.dout := rfl
@[simp] theorem acceptCommand_tickPending : (s.acceptCommand).tickPending = s.tickPending := rfl
@[simp] theorem acceptCommand_ctlPhase : (s.acceptCommand).ctlPhase = s.ctlPhase := rfl
@[simp] theorem acceptCommand_sinkData : (s.acceptCommand).sinkData = s.sinkData := rfl
@[simp] theorem acceptCommand_respValid : (s.acceptCommand).respValid = s.respValid := rfl
@[simp] theorem acceptCommand_fsRd : (s.acceptCommand).fsRd = s.fsRd := rfl
@[simp] theorem acceptCommand_sinkWe : (s.acceptCommand).sinkWe = s.sinkWe := rfl
@[simp] theorem acceptCommand_inputs : (s.acceptCommand).inputs = { s.inputs with cmdValid := false } := rfl
@[simp] theorem acceptCommand_fcfg : (s.acceptCommand).fcfg = s.fcfg := rfl
@[simp] theorem acceptCommand_history : (s.acceptCommand).history = .accepted s.inputs.cmdWord s.inputs.din :: s.history := rfl
@[simp] theorem acceptCommand_outcome : (s.acceptCommand).outcome = s.outcome := rfl
@[simp] theorem acceptCommand_respHasValue : (s.acceptCommand).respHasValue = s.respHasValue := rfl
@[simp] theorem acceptCommand_doutHasValue : (s.acceptCommand).doutHasValue = s.doutHasValue := rfl
@[simp] theorem acceptCommand_sinkDataHasValue : (s.acceptCommand).sinkDataHasValue = s.sinkDataHasValue := rfl
@[simp] theorem acceptCommand_registry : (s.acceptCommand).registry = s.registry := rfl
@[simp] theorem acceptCommand_schedule : (s.acceptCommand).schedule = s.schedule := rfl
@[simp] theorem acceptCommand_portRead : (s.acceptCommand).portRead = s.portRead := rfl

@[simp] theorem takeTimerPulse_params : (s.takeTimerPulse).params = s.params := rfl
@[simp] theorem takeTimerPulse_freq : (s.takeTimerPulse).freq = s.freq := rfl
@[simp] theorem takeTimerPulse_reload : (s.takeTimerPulse).reload = s.reload := rfl
@[simp] theorem takeTimerPulse_run : (s.takeTimerPulse).run = s.run := rfl
@[simp] theorem takeTimerPulse_count : (s.takeTimerPulse).count = s.count := rfl
@[simp] theorem takeTimerPulse_resp : (s.takeTimerPulse).resp = s.resp := rfl
@[simp] theorem takeTimerPulse_dout : (s.takeTimerPulse).dout = s.dout := rfl
@[simp] theorem takeTimerPulse_tickPending : (s.takeTimerPulse).tickPending = s.tickPending := rfl
@[simp] theorem takeTimerPulse_ctlPhase : (s.takeTimerPulse).ctlPhase = s.ctlPhase := rfl
@[simp] theorem takeTimerPulse_sinkData : (s.takeTimerPulse).sinkData = s.sinkData := rfl
@[simp] theorem takeTimerPulse_respValid : (s.takeTimerPulse).respValid = s.respValid := rfl
@[simp] theorem takeTimerPulse_fsRd : (s.takeTimerPulse).fsRd = s.fsRd := rfl
@[simp] theorem takeTimerPulse_sinkWe : (s.takeTimerPulse).sinkWe = s.sinkWe := rfl
@[simp] theorem takeTimerPulse_inputs : (s.takeTimerPulse).inputs = { s.inputs with tmrClkEn := false } := rfl
@[simp] theorem takeTimerPulse_fcfg : (s.takeTimerPulse).fcfg = s.fcfg := rfl
@[simp] theorem takeTimerPulse_history : (s.takeTimerPulse).history = s.history := rfl
@[simp] theorem takeTimerPulse_outcome : (s.takeTimerPulse).outcome = s.outcome := rfl
@[simp] theorem takeTimerPulse_respHasValue : (s.takeTimerPulse).respHasValue = s.respHasValue := rfl
@[simp] theorem takeTimerPulse_doutHasValue : (s.takeTimerPulse).doutHasValue = s.doutHasValue := rfl
@[simp] theorem takeTimerPulse_sinkDataHasValue : (s.takeTimerPulse).sinkDataHasValue = s.sinkDataHasValue := rfl
@[simp] theorem takeTimerPulse_registry : (s.takeTimerPulse).registry = s.registry := rfl
@[simp] theorem takeTimerPulse_schedule : (s.takeTimerPulse).schedule = s.schedule := rfl
@[simp] theorem takeTimerPulse_portRead : (s.takeTimerPulse).portRead = s.portRead := rfl

@[simp] theorem beginStep_params : (s.beginStep).params = s.params := rfl
@[simp] theorem beginStep_freq : (s.beginStep).freq = s.freq := rfl
@[simp] theorem beginStep_reload : (s.beginStep).reload = s.reload := rfl
@[simp] theorem beginStep_run : (s.beginStep).run = s.run := rfl
@[simp] theorem beginStep_count : (s.beginStep).count = s.count := rfl
@[simp] theorem beginStep_resp : (s.beginStep).resp = s.resp := rfl
@[simp] theorem beginStep_dout : (s.beginStep).dout = s.dout := rfl
@[simp] theorem beginStep_tickPending : (s.beginStep).tickPending = s.tickPending := rfl
@[simp] theorem beginStep_ctlPhase : (s.beginStep).ctlPhase = s.ctlPhase := rfl
@[simp] theorem beginStep_sinkData : (s.beginStep).sinkData = s.sinkData := rfl
@[simp] theorem beginStep_respValid : (s.beginStep).respValid = false := rfl
@[simp] theorem beginStep_fsRd : (s.beginStep).fsRd = false := rfl
@[simp] theorem beginStep_sinkWe : (s.beginStep).sinkWe = false := rfl
@[simp] theorem beginStep_inputs : (s.beginStep).inputs = s.inputs := rfl
@[simp] theorem beginStep_fcfg : (s.beginStep).fcfg = s.fcfg := rfl
@[simp] theorem beginStep_history : (s.beginStep).history = s.history := rfl
@[simp] theorem beginStep_outcome : (s.beginStep).outcome = .noOutcome := rfl
@[simp] theorem beginStep_respHasValue : (s.beginStep).respHasValue = s.respHasValue := rfl
@[simp] theorem beginStep_doutHasValue : (s.beginStep).doutHasValue = s.doutHasValue := rfl
@[simp] theorem beginStep_sinkDataHasValue : (s.beginStep).sinkDataHasValue = s.sinkDataHasValue := rfl
@[simp] theorem beginStep_registry : (s.beginStep).registry = s.registry := rfl
@[simp] theorem beginStep_schedule : (s.beginStep).schedule = s.schedule.tail := rfl
@[simp] theorem beginStep_portRead : (s.beginStep).portRead = .noRead := rfl

@[simp] theorem writeReload_params (f : Freq) (r : Nat) (g : Registry) : (s.writeReload f r g).params = s.params := rfl
@[simp] theorem writeReload_freq (f : Freq) (r : Nat) (g : Registry) : (s.writeReload f r g).freq = s.freq := rfl
@[simp] theorem writeReload_reload (f : Freq) (r : Nat) (g : Registry) : (s.writeReload f r g).reload = r := rfl
@[simp] theorem writeReload_run (f : Freq) (r : Nat) (g : Registry) : (s.writeReload f r g).run = s.run := rfl
@[simp] theorem writeReload_count (f : Freq) (r : Nat) (g : Registry) : (s.writeReload f r g).count = s.count := rfl
@[simp] theorem writeReload_resp (f : Freq) (r : Nat) (g : Registry) : (s.writeReload f r g).resp = s.resp := rfl
@[simp] theorem writeReload_dout (f : Freq) (r : Nat) (g : Registry) : (s.writeReload f r g).dout = s.dout := rfl
@[simp] theorem writeReload_tickPending (f : Freq) (r : Nat) (g : Registry) : (s.writeReload f r g).tickPending = s.tickPending := rfl
@[simp] theorem writeReload_ctlPhase (f : Freq) (r : Nat) (g : Registry) : (s.writeReload f r g).ctlPhase = s.ctlPhase := rfl
@[simp] theorem writeReload_sinkData (f : Freq) (r : Nat) (g : Registry) : (s.writeReload f r g).sinkData = s.sinkData := rfl
@[simp] theorem writeReload_respValid (f : Freq) (r : Nat) (g : Registry) : (s.writeReload f r g).respValid = s.respValid := rfl
@[simp] theorem writeReload_fsRd (f : Freq) (r : Nat) (g : Registry) : (s.writeReload f r g).fsRd = s.fsRd := rfl
@[simp] theorem writeReload_sinkWe (f : Freq) (r : Nat) (g : Registry) : (s.writeReload f r g).sinkWe = s.sinkWe := rfl
@[simp] theorem writeReload_inputs (f : Freq) (r : Nat) (g : Registry) : (s.writeReload f r g).inputs = s.inputs := rfl
@[simp] theorem writeReload_fcfg (f : Freq) (r : Nat) (g : Registry) : (s.writeReload f r g).fcfg = f := rfl
@[simp] theorem writeReload_history (f : Freq) (r : Nat) (g : Registry) : (s.writeReload f r g).history = s.history := rfl
@[simp] theorem writeReload_outcome (f : Freq) (r : Nat) (g : Registry) : (s.writeReload f r g).outcome = s.outcome := rfl
@[simp] theorem writeReload_respHasValue (f : Freq) (r : Nat) (g : Registry) : (s.writeReload f r g).respHasValue = s.respHasValue := rfl
@[simp] theorem writeReload_doutHasValue (f : Freq) (r : Nat) (g : Registry) : (s.writeReload f r g).doutHasValue = s.doutHasValue := rfl
@[simp] theorem writeReload_sinkDataHasValue (f : Freq) (r : Nat) (g : Registry) : (s.writeReload f r g).sinkDataHasValue = s.sinkDataHasValue := rfl
@[simp] theorem writeReload_registry (f : Freq) (r : Nat) (g : Registry) : (s.writeReload f r g).registry = g := rfl
@[simp] theorem writeReload_schedule (f : Freq) (r : Nat) (g : Registry) : (s.writeReload f r g).schedule = s.schedule := rfl
@[simp] theorem writeReload_portRead (f : Freq) (r : Nat) (g : Registry) : (s.writeReload f r g).portRead = s.portRead := rfl

@[simp] theorem writeFreq_params (f : Freq) : (s.writeFreq f).params = s.params := rfl
@[simp] theorem writeFreq_freq (f : Freq) : (s.writeFreq f).freq = f := rfl
@[simp] theorem writeFreq_reload (f : Freq) : (s.writeFreq f).reload = s.reload := rfl
@[simp] theorem writeFreq_run (f : Freq) : (s.writeFreq f).run = s.run := rfl
@[simp] theorem writeFreq_count (f : Freq) : (s.writeFreq f).count = s.count := rfl
@[simp] theorem writeFreq_resp (f : Freq) : (s.writeFreq f).resp = s.resp := rfl
@[simp] theorem writeFreq_dout (f : Freq) : (s.writeFreq f).dout = s.dout := rfl
@[simp] theorem writeFreq_tickPending (f : Freq) : (s.writeFreq f).tickPending = s.tickPending := rfl
@[simp] theorem writeFreq_ctlPhase (f : Freq) : (s.writeFreq f).ctlPhase = s.ctlPhase := rfl
@[simp] theorem writeFreq_sinkData (f : Freq) : (s.writeFreq f).sinkData = s.sinkData := rfl
@[simp] theorem writeFreq_respValid (f : Freq) : (s.writeFreq f).respValid = s.respValid := rfl
@[simp] theorem writeFreq_fsRd (f : Freq) : (s.writeFreq f).fsRd = s.fsRd := rfl
@[simp] theorem writeFreq_sinkWe (f : Freq) : (s.writeFreq f).sinkWe = s.sinkWe := rfl
@[simp] theorem writeFreq_inputs (f : Freq) : (s.writeFreq f).inputs = s.inputs := rfl
@[simp] theorem writeFreq_fcfg (f : Freq) : (s.writeFreq f).fcfg = s.fcfg := rfl
@[simp] theorem writeFreq_history (f : Freq) : (s.writeFreq f).history = s.history := rfl
@[simp] theorem writeFreq_outcome (f : Freq) : (s.writeFreq f).outcome = s.outcome := rfl
@[simp] theorem writeFreq_respHasValue (f : Freq) : (s.writeFreq f).respHasValue = s.respHasValue := rfl
@[simp] theorem writeFreq_doutHasValue (f : Freq) : (s.writeFreq f).doutHasValue = s.doutHasValue := rfl
@[simp] theorem writeFreq_sinkDataHasValue (f : Freq) : (s.writeFreq f).sinkDataHasValue = s.sinkDataHasValue := rfl
@[simp] theorem writeFreq_registry (f : Freq) : (s.writeFreq f).registry = s.registry := rfl
@[simp] theorem writeFreq_schedule (f : Freq) : (s.writeFreq f).schedule = s.schedule := rfl
@[simp] theorem writeFreq_portRead (f : Freq) : (s.writeFreq f).portRead = s.portRead := rfl

@[simp] theorem writeOB_params (b : Byte × Byte × Byte) : (s.writeOB b).params = s.params := rfl
@[simp] theorem writeOB_freq (b : Byte × Byte × Byte) : (s.writeOB b).freq = s.freq := rfl
@[simp] theorem writeOB_reload (b : Byte × Byte × Byte) : (s.writeOB b).reload = s.reload := rfl
@[simp] theorem writeOB_run (b : Byte × Byte × Byte) : (s.writeOB b).run = s.run := rfl
@[simp] theorem writeOB_count (b : Byte × Byte × Byte) : (s.writeOB b).count = s.count := rfl
@[simp] theorem writeOB_resp (b : Byte × Byte × Byte) : (s.writeOB b).resp = s.resp := rfl
@[simp] theorem writeOB_dout (b : Byte × Byte × Byte) : (s.writeOB b).dout = joinBytes b.1 b.2.1 b.2.2 := rfl
@[simp] theorem writeOB_tickPending (b : Byte × Byte × Byte) : (s.writeOB b).tickPending = s.tickPending := rfl
@[simp] theorem writeOB_ctlPhase (b : Byte × Byte × Byte) : (s.writeOB b).ctlPhase = s.ctlPhase := rfl
@[simp] theorem writeOB_sinkData (b : Byte × Byte × Byte) : (s.writeOB b).sinkData = s.sinkData := rfl
@[simp] theorem writeOB_respValid (b : Byte × Byte × Byte) : (s.writeOB b).respValid = s.respValid := rfl
@[simp] theorem writeOB_fsRd (b : Byte × Byte × Byte) : (s.writeOB b).fsRd = s.fsRd := rfl
@[simp] theorem writeOB_sinkWe (b : Byte × Byte × Byte) : (s.writeOB b).sinkWe = s.sinkWe := rfl
@[simp] theorem writeOB_inputs (b : Byte × Byte × Byte) : (s.writeOB b).inputs = s.inputs := rfl
@[simp] theorem writeOB_fcfg (b : Byte × Byte × Byte) : (s.writeOB b).fcfg = s.fcfg := rfl
@[simp] theorem writeOB_history (b : Byte × Byte × Byte) : (s.writeOB b).history = s.history := rfl
@[simp] theorem writeOB_outcome (b : Byte × Byte × Byte) : (s.writeOB b).outcome = s.outcome := rfl
@[simp] theorem writeOB_respHasValue (b : Byte × Byte × Byte) : (s.writeOB b).respHasValue = s.respHasValue := rfl
@[simp] theorem writeOB_doutHasValue (b : Byte × Byte × Byte) : (s.writeOB b).doutHasValue = true := rfl
@[simp] theorem writeOB_sinkDataHasValue (b : Byte × Byte × Byte) : (s.writeOB b).sinkDataHasValue = s.sinkDataHasValue := rfl
@[simp] theorem writeOB_registry (b : Byte × Byte × Byte) : (s.writeOB b).registry = s.registry := rfl
@[simp] theorem writeOB_schedule (b : Byte × Byte × Byte) : (s.writeOB b).schedule = s.schedule := rfl
@[simp] theorem writeOB_portRead (b : Byte × Byte × Byte) : (s.writeOB b).portRead = s.portRead := rfl

@[simp] theorem startClock_params : (s.startClock).params = s.params := rfl
@[simp] theorem startClock_freq : (s.startClock).freq = s.freq := rfl
@[simp] theorem startClock_reload : (s.startClock).reload = s.reload := rfl
@[simp] theorem startClock_run : (s.startClock).run = .running := rfl
@[simp] theorem startClock_count : (s.startClock).count = 0 := rfl
@[simp] theorem startClock_resp : (s.startClock).resp = s.resp := rfl
@[simp] theorem startClock_dout : (s.startClock).dout = s.dout := rfl
@[simp] theorem startClock_tickPending : (s.startClock).tickPending = false := rfl
@[simp] theorem startClock_ctlPhase : (s.startClock).ctlPhase = s.ctlPhase := rfl
@[simp] theorem startClock_sinkData : (s.startClock).sinkData = s.sinkData := rfl
@[simp] theorem startClock_respValid : (s.startClock).respValid = s.respValid := rfl
@[simp] theorem startClock_fsRd : (s.startClock).fsRd = s.fsRd := rfl
@[simp] theorem startClock_sinkWe : (s.startClock).sinkWe = s.sinkWe := rfl
@[simp] theorem startClock_inputs : (s.startClock).inputs = s.inputs := rfl
@[simp] theorem startClock_fcfg : (s.startClock).fcfg = s.fcfg := rfl
@[simp] theorem startClock_history : (s.startClock).history = s.history := rfl
@[simp] theorem startClock_outcome : (s.startClock).outcome = s.outcome := rfl
@[simp] theorem startClock_respHasValue : (s.startClock).respHasValue = s.respHasValue := rfl
@[simp] theorem startClock_doutHasValue : (s.startClock).doutHasValue = s.doutHasValue := rfl
@[simp] theorem startClock_sinkDataHasValue : (s.startClock).sinkDataHasValue = s.sinkDataHasValue := rfl
@[simp] theorem startClock_registry : (s.startClock).registry = s.registry := rfl
@[simp] theorem startClock_schedule : (s.startClock).schedule = s.schedule := rfl
@[simp] theorem startClock_portRead : (s.startClock).portRead = s.portRead := rfl

@[simp] theorem stopClock_params : (s.stopClock).params = s.params := rfl
@[simp] theorem stopClock_freq : (s.stopClock).freq = s.freq := rfl
@[simp] theorem stopClock_reload : (s.stopClock).reload = s.reload := rfl
@[simp] theorem stopClock_run : (s.stopClock).run = .stopped := rfl
@[simp] theorem stopClock_count : (s.stopClock).count = s.count := rfl
@[simp] theorem stopClock_resp : (s.stopClock).resp = s.resp := rfl
@[simp] theorem stopClock_dout : (s.stopClock).dout = s.dout := rfl
@[simp] theorem stopClock_tickPending : (s.stopClock).tickPending = false := rfl
@[simp] theorem stopClock_ctlPhase : (s.stopClock).ctlPhase = s.ctlPhase := rfl
@[simp] theorem stopClock_sinkData : (s.stopClock).sinkData = s.sinkData := rfl
@[simp] theorem stopClock_respValid : (s.stopClock).respValid = s.respValid := rfl
@[simp] theorem stopClock_fsRd : (s.stopClock).fsRd = s.fsRd := rfl
@[simp] theorem stopClock_sinkWe : (s.stopClock).sinkWe = s.sinkWe := rfl
@[simp] theorem stopClock_inputs : (s.stopClock).inputs = s.inputs := rfl
@[simp] theorem stopClock_fcfg : (s.stopClock).fcfg = s.fcfg := rfl
@[simp] theorem stopClock_history : (s.stopClock).history = s.history := rfl
@[simp] theorem stopClock_outcome : (s.stopClock).outcome = s.outcome := rfl
@[simp] theorem stopClock_respHasValue : (s.stopClock).respHasValue = s.respHasValue := rfl
@[simp] theorem stopClock_doutHasValue : (s.stopClock).doutHasValue = s.doutHasValue := rfl
@[simp] theorem stopClock_sinkDataHasValue : (s.stopClock).sinkDataHasValue = s.sinkDataHasValue := rfl
@[simp] theorem stopClock_registry : (s.stopClock).registry = s.registry := rfl
@[simp] theorem stopClock_schedule : (s.stopClock).schedule = s.schedule := rfl
@[simp] theorem stopClock_portRead : (s.stopClock).portRead = s.portRead := rfl

@[simp] theorem requestTick_params : (s.requestTick).params = s.params := rfl
@[simp] theorem requestTick_freq : (s.requestTick).freq = s.freq := rfl
@[simp] theorem requestTick_reload : (s.requestTick).reload = s.reload := rfl
@[simp] theorem requestTick_run : (s.requestTick).run = s.run := rfl
@[simp] theorem requestTick_count : (s.requestTick).count = 0 := rfl
@[simp] theorem requestTick_resp : (s.requestTick).resp = s.resp := rfl
@[simp] theorem requestTick_dout : (s.requestTick).dout = s.dout := rfl
@[simp] theorem requestTick_tickPending : (s.requestTick).tickPending = true := rfl
@[simp] theorem requestTick_ctlPhase : (s.requestTick).ctlPhase = s.ctlPhase := rfl
@[simp] theorem requestTick_sinkData : (s.requestTick).sinkData = s.sinkData := rfl
@[simp] theorem requestTick_respValid : (s.requestTick).respValid = s.respValid := rfl
@[simp] theorem requestTick_fsRd : (s.requestTick).fsRd = s.fsRd := rfl
@[simp] theorem requestTick_sinkWe : (s.requestTick).sinkWe = s.sinkWe := rfl
@[simp] theorem requestTick_inputs : (s.requestTick).inputs = s.inputs := rfl
@[simp] theorem requestTick_fcfg : (s.requestTick).fcfg = s.fcfg := rfl
@[simp] theorem requestTick_history : (s.requestTick).history = s.history := rfl
@[simp] theorem requestTick_outcome : (s.requestTick).outcome = s.outcome := rfl
@[simp] theorem requestTick_respHasValue : (s.requestTick).respHasValue = s.respHasValue := rfl
@[simp] theorem requestTick_doutHasValue : (s.requestTick).doutHasValue = s.doutHasValue := rfl
@[simp] theorem requestTick_sinkDataHasValue : (s.requestTick).sinkDataHasValue = s.sinkDataHasValue := rfl
@[simp] theorem requestTick_registry : (s.requestTick).registry = s.registry := rfl
@[simp] theorem requestTick_schedule : (s.requestTick).schedule = s.schedule := rfl
@[simp] theorem requestTick_portRead : (s.requestTick).portRead = s.portRead := rfl

@[simp] theorem openWindow_params : (s.openWindow).params = s.params := rfl
@[simp] theorem openWindow_freq : (s.openWindow).freq = s.freq := rfl
@[simp] theorem openWindow_reload : (s.openWindow).reload = s.reload := rfl
@[simp] theorem openWindow_run : (s.openWindow).run = s.run := rfl
@[simp] theorem openWindow_count : (s.openWindow).count = s.count := rfl
@[simp] theorem openWindow_resp : (s.openWindow).resp = s.resp := rfl
@[simp] theorem openWindow_dout : (s.openWindow).dout = s.dout := rfl
@[simp] theorem openWindow_tickPending : (s.openWindow).tickPending = s.tickPending := rfl
@[simp] theorem openWindow_ctlPhase : (s.openWindow).ctlPhase = .setReconf := rfl
@[simp] theorem openWindow_sinkData : (s.openWindow).sinkData = s.sinkData := rfl
@[simp] theorem openWindow_respValid : (s.openWindow).respValid = s.respValid := rfl
@[simp] theorem openWindow_fsRd : (s.openWindow).fsRd = s.fsRd := rfl
@[simp] theorem openWindow_sinkWe : (s.openWindow).sinkWe = s.sinkWe := rfl
@[simp] theorem openWindow_inputs : (s.openWindow).inputs = s.inputs := rfl
@[simp] theorem openWindow_fcfg : (s.openWindow).fcfg = s.fcfg := rfl
@[simp] theorem openWindow_history : (s.openWindow).history = s.history := rfl
@[simp] theorem openWindow_outcome : (s.openWindow).outcome = s.outcome := rfl
@[simp] theorem openWindow_respHasValue : (s.openWindow).respHasValue = s.respHasValue := rfl
@[simp] theorem openWindow_doutHasValue : (s.openWindow).doutHasValue = s.doutHasValue := rfl
@[simp] theorem openWindow_sinkDataHasValue : (s.openWindow).sinkDataHasValue = s.sinkDataHasValue := rfl
@[simp] theorem openWindow_registry : (s.openWindow).registry = s.registry := rfl
@[simp] theorem openWindow_schedule : (s.openWindow).schedule = s.schedule := rfl
@[simp] theorem openWindow_portRead : (s.openWindow).portRead = s.portRead := rfl

@[simp] theorem closeWindow_params : (s.closeWindow).params = s.params := rfl
@[simp] theorem closeWindow_freq : (s.closeWindow).freq = s.freq := rfl
@[simp] theorem closeWindow_reload : (s.closeWindow).reload = s.reload := rfl
@[simp] theorem closeWindow_run : (s.closeWindow).run = s.run := rfl
@[simp] theorem closeWindow_count : (s.closeWindow).count = s.count := rfl
@[simp] theorem closeWindow_resp : (s.closeWindow).resp = s.resp := rfl
@[simp] theorem closeWindow_dout : (s.closeWindow).dout = s.dout := rfl
@[simp] theorem closeWindow_tickPending : (s.closeWindow).tickPending = s.tickPending := rfl
@[simp] theorem closeWindow_ctlPhase : (s.closeWindow).ctlPhase = .idle := rfl
@[simp] theorem closeWindow_sinkData : (s.closeWindow).sinkData = s.sinkData := rfl
@[simp] theorem closeWindow_respValid : (s.closeWindow).respValid = s.respValid := rfl
@[simp] theorem closeWindow_fsRd : (s.closeWindow).fsRd = s.fsRd := rfl
@[simp] theorem closeWindow_sinkWe : (s.closeWindow).sinkWe = s.sinkWe := rfl
@[simp] theorem closeWindow_inputs : (s.closeWindow).inputs = s.inputs := rfl
@[simp] theorem closeWindow_fcfg : (s.closeWindow).fcfg = s.fcfg := rfl
@[simp] theorem closeWindow_history : (s.closeWindow).history = s.history := rfl
@[simp] theorem closeWindow_outcome : (s.closeWindow).outcome = s.outcome := rfl
@[simp] theorem closeWindow_respHasValue : (s.closeWindow).respHasValue = s.respHasValue := rfl
@[simp] theorem closeWindow_doutHasValue : (s.closeWindow).doutHasValue = s.doutHasValue := rfl
@[simp] theorem closeWindow_sinkDataHasValue : (s.closeWindow).sinkDataHasValue = s.sinkDataHasValue := rfl
@[simp] theorem closeWindow_registry : (s.closeWindow).registry = s.registry := rfl
@[simp] theorem closeWindow_schedule : (s.closeWindow).schedule = s.schedule := rfl
@[simp] theorem closeWindow_portRead : (s.closeWindow).portRead = s.portRead := rfl

@[simp] theorem markSetFailed_params : (s.markSetFailed).params = s.params := rfl
@[simp] theorem markSetFailed_freq : (s.markSetFailed).freq = s.freq := rfl
@[simp] theorem markSetFailed_reload : (s.markSetFailed).reload = s.reload := rfl
@[simp] theorem markSetFailed_run : (s.markSetFailed).run = s.run := rfl
@[simp] theorem markSetFailed_count : (s.markSetFailed).count = s.count := rfl
@[simp] theorem markSetFailed_resp : (s.markSetFailed).resp = s.resp := rfl
@[simp] theorem markSetFailed_dout : (s.markSetFailed).dout = s.dout := rfl
@[simp] theorem markSetFailed_tickPending : (s.markSetFailed).tickPending = s.tickPending := rfl
@[simp] theorem markSetFailed_ctlPhase : (s.markSetFailed).ctlPhase = s.ctlPhase := rfl
@[simp] theorem markSetFailed_sinkData : (s.markSetFailed).sinkData = s.sinkData := rfl
@[simp] theorem markSetFailed_respValid : (s.markSetFailed).respValid = s.respValid := rfl
@[simp] theorem markSetFailed_fsRd : (s.markSetFailed).fsRd = s.fsRd := rfl
@[simp] theorem markSetFailed_sinkWe : (s.markSetFailed).sinkWe = s.sinkWe := rfl
@[simp] theorem markSetFailed_inputs : (s.markSetFailed).inputs = s.inputs := rfl
@[simp] theorem markSetFailed_fcfg : (s.markSetFailed).fcfg = s.fcfg := rfl
@[simp] theorem markSetFailed_history : (s.markSetFailed).history = s.history := rfl
@[simp] theorem markSetFailed_outcome : (s.markSetFailed).outcome = s.outcome := rfl
@[simp] theorem markSetFailed_respHasValue : (s.markSetFailed).respHasValue = s.respHasValue := rfl
@[simp] theorem markSetFailed_doutHasValue : (s.markSetFailed).doutHasValue = s.doutHasValue := rfl
@[simp] theorem markSetFailed_sinkDataHasValue : (s.markSetFailed).sinkDataHasValue = s.sinkDataHasValue := rfl
@[simp] theorem markSetFailed_registry : (s.markSetFailed).registry = .setFailed := rfl
@[simp] theorem markSetFailed_schedule : (s.markSetFailed).schedule = s.schedule := rfl
@[simp] theorem markSetFailed_portRead : (s.markSetFailed).portRead = s.portRead := rfl

@[simp] theorem setInputs_params (l : Inputs) : (s.setInputs l).params = s.params := rfl
@[simp] theorem setInputs_freq (l : Inputs) : (s.setInputs l).freq = s.freq := rfl
@[simp] theorem setInputs_reload (l : Inputs) : (s.setInputs l).reload = s.reload := rfl
@[simp] theorem setInputs_run (l : Inputs) : (s.setInputs l).run = s.run := rfl
@[simp] theorem setInputs_count (l : Inputs) : (s.setInputs l).count = s.count := rfl
@[simp] theorem setInputs_resp (l : Inputs) : (s.setInputs l).resp = s.resp := rfl
@[simp] theorem setInputs_dout (l : Inputs) : (s.setInputs l).dout = s.dout := rfl
@[simp] theorem setInputs_tickPending (l : Inputs) : (s.setInputs l).tickPending = s.tickPending := rfl
@[simp] theorem setInputs_ctlPhase (l : Inputs) : (s.setInputs l).ctlPhase = s.ctlPhase := rfl
@[simp] theorem setInputs_sinkData (l : Inputs) : (s.setInputs l).sinkData = s.sinkData := rfl
@[simp] theorem setInputs_respValid (l : Inputs) : (s.setInputs l).respValid = s.respValid := rfl
@[simp] theorem setInputs_fsRd (l : Inputs) : (s.setInputs l).fsRd = s.fsRd := rfl
@[simp] theorem setInputs_sinkWe (l : Inputs) : (s.setInputs l).sinkWe = s.sinkWe := rfl
@[simp] theorem setInputs_inputs (l : Inputs) : (s.setInputs l).inputs = l := rfl
@[simp] theorem setInputs_fcfg (l : Inputs) : (s.setInputs l).fcfg = s.fcfg := rfl
@[simp] theorem setInputs_history (l : Inputs) : (s.setInputs l).history = s.history := rfl
@[simp] theorem setInputs_outcome (l : Inputs) : (s.setInputs l).outcome = s.outcome := rfl
@[simp] theorem setInputs_respHasValue (l : Inputs) : (s.setInputs l).respHasValue = s.respHasValue := rfl
@[simp] theorem setInputs_doutHasValue (l : Inputs) : (s.setInputs l).doutHasValue = s.doutHasValue := rfl
@[simp] theorem setInputs_sinkDataHasValue (l : Inputs) : (s.setInputs l).sinkDataHasValue = s.sinkDataHasValue := rfl
@[simp] theorem setInputs_registry (l : Inputs) : (s.setInputs l).registry = s.registry := rfl
@[simp] theorem setInputs_schedule (l : Inputs) : (s.setInputs l).schedule = s.schedule := rfl
@[simp] theorem setInputs_portRead (l : Inputs) : (s.setInputs l).portRead = s.portRead := rfl

@[simp] theorem countUp_params : (s.countUp).params = s.params := rfl
@[simp] theorem countUp_freq : (s.countUp).freq = s.freq := rfl
@[simp] theorem countUp_reload : (s.countUp).reload = s.reload := rfl
@[simp] theorem countUp_run : (s.countUp).run = s.run := rfl
@[simp] theorem countUp_count : (s.countUp).count = s.params.truncW (s.count + 1) := rfl
@[simp] theorem countUp_resp : (s.countUp).resp = s.resp := rfl
@[simp] theorem countUp_dout : (s.countUp).dout = s.dout := rfl
@[simp] theorem countUp_tickPending : (s.countUp).tickPending = s.tickPending := rfl
@[simp] theorem countUp_ctlPhase : (s.countUp).ctlPhase = s.ctlPhase := rfl
@[simp] theorem countUp_sinkData : (s.countUp).sinkData = s.sinkData := rfl
@[simp] theorem countUp_respValid : (s.countUp).respValid = s.respValid := rfl
@[simp] theorem countUp_fsRd : (s.countUp).fsRd = s.fsRd := rfl
@[simp] theorem countUp_sinkWe : (s.countUp).sinkWe = s.sinkWe := rfl
@[simp] theorem countUp_inputs : (s.countUp).inputs = s.inputs := rfl
@[simp] theorem countUp_fcfg : (s.countUp).fcfg = s.fcfg := rfl
@[simp] theorem countUp_history : (s.countUp).history = s.history := rfl
@[simp] theorem countUp_outcome : (s.countUp).outcome = s.outcome := rfl
@[simp] theorem countUp_respHasValue : (s.countUp).respHasValue = s.respHasValue := rfl
@[simp] theorem countUp_doutHasValue : (s.countUp).doutHasValue = s.doutHasValue := rfl
@[simp] theorem countUp_sinkDataHasValue : (s.countUp).sinkDataHasValue = s.sinkDataHasValue := rfl
@[simp] theorem countUp_registry : (s.countUp).registry = s.registry := rfl
@[simp] theorem countUp_schedule : (s.countUp).schedule = s.schedule := rfl
@[simp] theorem countUp_portRead : (s.countUp).portRead = s.portRead := rfl

@[simp] theorem enterTick_params : (s.enterTick).params = s.params := rfl
@[simp] theorem enterTick_freq : (s.enterTick).freq = s.freq := rfl
@[simp] theorem enterTick_reload : (s.enterTick).reload = s.reload := rfl
@[simp] theorem enterTick_run : (s.enterTick).run = s.run := rfl
@[simp] theorem enterTick_count : (s.enterTick).count = s.count := rfl
@[simp] theorem enterTick_resp : (s.enterTick).resp = s.resp := rfl
@[simp] theorem enterTick_dout : (s.enterTick).dout = s.dout := rfl
@[simp] theorem enterTick_tickPending : (s.enterTick).tickPending = false := rfl
@[simp] theorem enterTick_ctlPhase : (s.enterTick).ctlPhase = s.ctlPhase := rfl
@[simp] theorem enterTick_sinkData : (s.enterTick).sinkData = s.sinkData := rfl
@[simp] theorem enterTick_respValid : (s.enterTick).respValid = s.respValid := rfl
@[simp] theorem enterTick_fsRd : (s.enterTick).fsRd = s.fsRd := rfl
@[simp] theorem enterTick_sinkWe : (s.enterTick).sinkWe = s.sinkWe := rfl
@[simp] theorem enterTick_inputs : (s.enterTick).inputs = s.inputs := rfl
@[simp] theorem enterTick_fcfg : (s.enterTick).fcfg = s.fcfg := rfl
@[simp] theorem enterTick_history : (s.enterTick).history = s.history := rfl
@[simp] theorem enterTick_outcome : (s.enterTick).outcome = s.outcome := rfl
@[simp] theorem enterTick_respHasValue : (s.enterTick).respHasValue = s.respHasValue := rfl
@[simp] theorem enterTick_doutHasValue : (s.enterTick).doutHasValue = s.doutHasValue := rfl
@[simp] theorem enterTick_sinkDataHasValue : (s.enterTick).sinkDataHasValue = s.sinkDataHasValue := rfl
@[simp] theorem enterTick_registry : (s.enterTick).registry = s.registry := rfl
@[simp] theorem enterTick_schedule : (s.enterTick).schedule = s.schedule := rfl
@[simp] theorem enterTick_portRead : (s.enterTick).portRead = s.portRead := rfl

@[simp] theorem readFrame_params : (s.readFrame).params = s.params := rfl
@[simp] theorem readFrame_freq : (s.readFrame).freq = s.freq := rfl
@[simp] theorem readFrame_reload : (s.readFrame).reload = s.reload := rfl
@[simp] theorem readFrame_run : (s.readFrame).run = s.run := rfl
@[simp] theorem readFrame_count : (s.readFrame).count = s.count := rfl
@[simp] theorem readFrame_resp : (s.readFrame).resp = s.resp := rfl
@[simp] theorem readFrame_dout : (s.readFrame).dout = s.dout := rfl
@[simp] theorem readFrame_tickPending : (s.readFrame).tickPending = s.tickPending := rfl
@[simp] theorem readFrame_ctlPhase : (s.readFrame).ctlPhase = s.ctlPhase := rfl
@[simp] theorem readFrame_sinkData : (s.readFrame).sinkData = s.sinkData := rfl
@[simp] theorem readFrame_respValid : (s.readFrame).respValid = s.respValid := rfl
@[simp] theorem readFrame_fsRd : (s.readFrame).fsRd = true := rfl
@[simp] theorem readFrame_sinkWe : (s.readFrame).sinkWe = s.sinkWe := rfl
@[simp] theorem readFrame_inputs : (s.readFrame).inputs = s.inputs := rfl
@[simp] theorem readFrame_fcfg : (s.readFrame).fcfg = s.fcfg := rfl
@[simp] theorem readFrame_history : (s.readFrame).history = .frameRead s.inputs.fsLeft s.inputs.fsRight :: s.history := rfl
@[simp] theorem readFrame_outcome : (s.readFrame).outcome = s.outcome := rfl
@[simp] theorem readFrame_respHasValue : (s.readFrame).respHasValue = s.respHasValue := rfl
@[simp] theorem readFrame_doutHasValue : (s.readFrame).doutHasValue = s.doutHasValue := rfl
@[simp] theorem readFrame_sinkDataHasValue : (s.readFrame).sinkDataHasValue = s.sinkDataHasValue := rfl
@[simp] theorem readFrame_registry : (s.readFrame).registry = s.registry := rfl
@[simp] theorem readFrame_schedule : (s.readFrame).schedule = s.schedule := rfl
@[simp] theorem readFrame_portRead : (s.readFrame).portRead = s.portRead := rfl

@[simp] theorem writeSink_params (b : Byte) : (s.writeSink b).params = s.params := rfl
@[simp] theorem writeSink_freq (b : Byte) : (s.writeSink b).freq = s.freq := rfl
@[simp] theorem writeSink_reload (b : Byte) : (s.writeSink b).reload = s.reload := rfl
@[simp] theorem writeSink_run (b : Byte) : (s.writeSink b).run = s.run := rfl
@[simp] theorem writeSink_count (b : Byte) : (s.writeSink b).count = s.count := rfl
@[simp] theorem writeSink_resp (b : Byte) : (s.writeSink b).resp = s.resp := rfl
@[simp] theorem writeSink_dout (b : Byte) : (s.writeSink b).dout = s.dout := rfl
@[simp] theorem writeSink_tickPending (b : Byte) : (s.writeSink b).tickPending = s.tickPending := rfl
@[simp] theorem writeSink_ctlPhase (b : Byte) : (s.writeSink b).ctlPhase = s.ctlPhase := rfl
@[simp] theorem writeSink_sinkData (b : Byte) : (s.writeSink b).sinkData = b := rfl
@[simp] theorem writeSink_respValid (b : Byte) : (s.writeSink b).respValid = s.respValid := rfl
@[simp] theorem writeSink_fsRd (b : Byte) : (s.writeSink b).fsRd = s.fsRd := rfl
@[simp] theorem writeSink_sinkWe (b : Byte) : (s.writeSink b).sinkWe = true := rfl
@[simp] theorem writeSink_inputs (b : Byte) : (s.writeSink b).inputs = s.inputs := rfl
@[simp] theorem writeSink_fcfg (b : Byte) : (s.writeSink b).fcfg = s.fcfg := rfl
@[simp] theorem writeSink_history (b : Byte) : (s.writeSink b).history = .sinkWrite b :: s.history := rfl
@[simp] theorem writeSink_outcome (b : Byte) : (s.writeSink b).outcome = s.outcome := rfl
@[simp] theorem writeSink_respHasValue (b : Byte) : (s.writeSink b).respHasValue = s.respHasValue := rfl
@[simp] theorem writeSink_doutHasValue (b : Byte) : (s.writeSink b).doutHasValue = s.doutHasValue := rfl
@[simp] theorem writeSink_sinkDataHasValue (b : Byte) : (s.writeSink b).sinkDataHasValue = true := rfl
@[simp] theorem writeSink_registry (b : Byte) : (s.writeSink b).registry = s.registry := rfl
@[simp] theorem writeSink_schedule (b : Byte) : (s.writeSink b).schedule = s.schedule := rfl
@[simp] theorem writeSink_portRead (b : Byte) : (s.writeSink b).portRead = s.portRead := rfl

@[simp] theorem readPort_params (p : OutputPort) : (s.readPort p).params = s.params := rfl
@[simp] theorem readPort_freq (p : OutputPort) : (s.readPort p).freq = s.freq := rfl
@[simp] theorem readPort_reload (p : OutputPort) : (s.readPort p).reload = s.reload := rfl
@[simp] theorem readPort_run (p : OutputPort) : (s.readPort p).run = s.run := rfl
@[simp] theorem readPort_count (p : OutputPort) : (s.readPort p).count = s.count := rfl
@[simp] theorem readPort_resp (p : OutputPort) : (s.readPort p).resp = s.resp := rfl
@[simp] theorem readPort_dout (p : OutputPort) : (s.readPort p).dout = s.dout := rfl
@[simp] theorem readPort_tickPending (p : OutputPort) : (s.readPort p).tickPending = s.tickPending := rfl
@[simp] theorem readPort_ctlPhase (p : OutputPort) : (s.readPort p).ctlPhase = s.ctlPhase := rfl
@[simp] theorem readPort_sinkData (p : OutputPort) : (s.readPort p).sinkData = s.sinkData := rfl
@[simp] theorem readPort_respValid (p : OutputPort) : (s.readPort p).respValid = s.respValid := rfl
@[simp] theorem readPort_fsRd (p : OutputPort) : (s.readPort p).fsRd = s.fsRd := rfl
@[simp] theorem readPort_sinkWe (p : OutputPort) : (s.readPort p).sinkWe = s.sinkWe := rfl
@[simp] theorem readPort_inputs (p : OutputPort) : (s.readPort p).inputs = s.inputs := rfl
@[simp] theorem readPort_fcfg (p : OutputPort) : (s.readPort p).fcfg = s.fcfg := rfl
@[simp] theorem readPort_history (p : OutputPort) : (s.readPort p).history = s.history := rfl
@[simp] theorem readPort_outcome (p : OutputPort) : (s.readPort p).outcome = s.outcome := rfl
@[simp] theorem readPort_respHasValue (p : OutputPort) : (s.readPort p).respHasValue = s.respHasValue := rfl
@[simp] theorem readPort_doutHasValue (p : OutputPort) : (s.readPort p).doutHasValue = s.doutHasValue := rfl
@[simp] theorem readPort_sinkDataHasValue (p : OutputPort) : (s.readPort p).sinkDataHasValue = s.sinkDataHasValue := rfl
@[simp] theorem readPort_registry (p : OutputPort) : (s.readPort p).registry = s.registry := rfl
@[simp] theorem readPort_schedule (p : OutputPort) : (s.readPort p).schedule = s.schedule := rfl
@[simp] theorem readPort_portRead (p : OutputPort) : (s.readPort p).portRead = if s.portHasValue p then s.portValue p else .faulted p := rfl

@[simp] theorem answered_params (b : Byte) : (s.answered b).params = s.params := rfl
@[simp] theorem answered_freq (b : Byte) : (s.answered b).freq = s.freq := rfl
@[simp] theorem answered_reload (b : Byte) : (s.answered b).reload = s.reload := rfl
@[simp] theorem answered_run (b : Byte) : (s.answered b).run = s.run := rfl
@[simp] theorem answered_count (b : Byte) : (s.answered b).count = s.count := rfl
@[simp] theorem answered_resp (b : Byte) : (s.answered b).resp = b := rfl
@[simp] theorem answered_dout (b : Byte) : (s.answered b).dout = s.dout := rfl
@[simp] theorem answered_tickPending (b : Byte) : (s.answered b).tickPending = s.tickPending := rfl
@[simp] theorem answered_ctlPhase (b : Byte) : (s.answered b).ctlPhase = s.ctlPhase := rfl
@[simp] theorem answered_sinkData (b : Byte) : (s.answered b).sinkData = s.sinkData := rfl
@[simp] theorem answered_respValid (b : Byte) : (s.answered b).respValid = true := rfl
@[simp] theorem answered_fsRd (b : Byte) : (s.answered b).fsRd = s.fsRd := rfl
@[simp] theorem answered_sinkWe (b : Byte) : (s.answered b).sinkWe = s.sinkWe := rfl
@[simp] theorem answered_inputs (b : Byte) : (s.answered b).inputs = s.inputs := rfl
@[simp] theorem answered_fcfg (b : Byte) : (s.answered b).fcfg = s.fcfg := rfl
@[simp] theorem answered_history (b : Byte) : (s.answered b).history = .response b s.doutValue :: s.history := rfl
@[simp] theorem answered_outcome (b : Byte) : (s.answered b).outcome = s.outcome := rfl
@[simp] theorem answered_respHasValue (b : Byte) : (s.answered b).respHasValue = true := rfl
@[simp] theorem answered_doutHasValue (b : Byte) : (s.answered b).doutHasValue = s.doutHasValue := rfl
@[simp] theorem answered_sinkDataHasValue (b : Byte) : (s.answered b).sinkDataHasValue = s.sinkDataHasValue := rfl
@[simp] theorem answered_registry (b : Byte) : (s.answered b).registry = s.registry := rfl
@[simp] theorem answered_schedule (b : Byte) : (s.answered b).schedule = s.schedule := rfl
@[simp] theorem answered_portRead (b : Byte) : (s.answered b).portRead = s.portRead := rfl

@[simp] theorem recorded_params (o : BlockOutcome) : (s.recorded o).params = s.params := rfl
@[simp] theorem recorded_freq (o : BlockOutcome) : (s.recorded o).freq = s.freq := rfl
@[simp] theorem recorded_reload (o : BlockOutcome) : (s.recorded o).reload = s.reload := rfl
@[simp] theorem recorded_run (o : BlockOutcome) : (s.recorded o).run = s.run := rfl
@[simp] theorem recorded_count (o : BlockOutcome) : (s.recorded o).count = s.count := rfl
@[simp] theorem recorded_resp (o : BlockOutcome) : (s.recorded o).resp = s.resp := rfl
@[simp] theorem recorded_dout (o : BlockOutcome) : (s.recorded o).dout = s.dout := rfl
@[simp] theorem recorded_tickPending (o : BlockOutcome) : (s.recorded o).tickPending = s.tickPending := rfl
@[simp] theorem recorded_ctlPhase (o : BlockOutcome) : (s.recorded o).ctlPhase = s.ctlPhase := rfl
@[simp] theorem recorded_sinkData (o : BlockOutcome) : (s.recorded o).sinkData = s.sinkData := rfl
@[simp] theorem recorded_respValid (o : BlockOutcome) : (s.recorded o).respValid = s.respValid := rfl
@[simp] theorem recorded_fsRd (o : BlockOutcome) : (s.recorded o).fsRd = s.fsRd := rfl
@[simp] theorem recorded_sinkWe (o : BlockOutcome) : (s.recorded o).sinkWe = s.sinkWe := rfl
@[simp] theorem recorded_inputs (o : BlockOutcome) : (s.recorded o).inputs = s.inputs := rfl
@[simp] theorem recorded_fcfg (o : BlockOutcome) : (s.recorded o).fcfg = s.fcfg := rfl
@[simp] theorem recorded_history (o : BlockOutcome) : (s.recorded o).history = .recorded o :: s.history := rfl
@[simp] theorem recorded_outcome (o : BlockOutcome) : (s.recorded o).outcome = o := rfl
@[simp] theorem recorded_respHasValue (o : BlockOutcome) : (s.recorded o).respHasValue = s.respHasValue := rfl
@[simp] theorem recorded_doutHasValue (o : BlockOutcome) : (s.recorded o).doutHasValue = s.doutHasValue := rfl
@[simp] theorem recorded_sinkDataHasValue (o : BlockOutcome) : (s.recorded o).sinkDataHasValue = s.sinkDataHasValue := rfl
@[simp] theorem recorded_registry (o : BlockOutcome) : (s.recorded o).registry = s.registry := rfl
@[simp] theorem recorded_schedule (o : BlockOutcome) : (s.recorded o).schedule = s.schedule := rfl
@[simp] theorem recorded_portRead (o : BlockOutcome) : (s.recorded o).portRead = s.portRead := rfl

@[simp] theorem leaveTick_eq : s.leaveTick = s := rfl

@[simp] theorem resetStep_params : (resetStep s).params = s.params := rfl
@[simp] theorem resetStep_freq : (resetStep s).freq = s.params.initFreq := rfl
@[simp] theorem resetStep_reload : (resetStep s).reload = (s.params.reloadField s.params.initFreq.toNat).getD 0 := rfl
@[simp] theorem resetStep_run : (resetStep s).run = .stopped := rfl
@[simp] theorem resetStep_count : (resetStep s).count = 0 := rfl
@[simp] theorem resetStep_resp : (resetStep s).resp = Config.respAtReset := rfl
@[simp] theorem resetStep_dout : (resetStep s).dout = Config.doutAtReset := rfl
@[simp] theorem resetStep_tickPending : (resetStep s).tickPending = false := rfl
@[simp] theorem resetStep_ctlPhase : (resetStep s).ctlPhase = .idle := rfl
@[simp] theorem resetStep_sinkData : (resetStep s).sinkData = Config.sinkDataAtReset := rfl
@[simp] theorem resetStep_respValid : (resetStep s).respValid = false := rfl
@[simp] theorem resetStep_fsRd : (resetStep s).fsRd = false := rfl
@[simp] theorem resetStep_sinkWe : (resetStep s).sinkWe = false := rfl
@[simp] theorem resetStep_inputs : (resetStep s).inputs = s.inputs := rfl
@[simp] theorem resetStep_fcfg : (resetStep s).fcfg = s.params.initFreq := rfl
@[simp] theorem resetStep_history : (resetStep s).history = s.history := rfl
@[simp] theorem resetStep_outcome : (resetStep s).outcome = .noOutcome := rfl
@[simp] theorem resetStep_respHasValue : (resetStep s).respHasValue = false := rfl
@[simp] theorem resetStep_doutHasValue : (resetStep s).doutHasValue = false := rfl
@[simp] theorem resetStep_sinkDataHasValue : (resetStep s).sinkDataHasValue = false := rfl
@[simp] theorem resetStep_registry : (resetStep s).registry = .agrees := rfl
@[simp] theorem resetStep_schedule : (resetStep s).schedule = s.schedule := rfl
@[simp] theorem resetStep_portRead : (resetStep s).portRead = .noRead := rfl

end Sys2Proof.Machine.State
end

