-- ==== Sys2Proof/Laws/Ops.lean ====
section
/-! SUPPORT. One spec lemma per shared operation: the responses as bytes, the payload codec against `din`, recognition,
and what a configuration writes. -/

namespace Sys2Proof.Machine

theorem packResp_handled : packResp true false false 0#4 = 0x01#8 := rfl
theorem packResp_configError : packResp true true false 0#4 = 0x03#8 := rfl
theorem packResp_getCur : packResp true false false 3#4 = 0x31#8 := rfl
theorem packResp_rejected : packResp false false false 0#4 = 0x00#8 := rfl
theorem packResp_illegal : packResp false false true 0#4 = 0x04#8 := rfl

theorem State.respond_eq_answered (s : State) (h c i : Bool) (n : BitVec 4) :
    s.respond h c i n = s.answered (packResp h c i n) := rfl

theorem State.raise_eq_recorded (s : State) (o : BlockOutcome) : s.raise o = s.recorded o := rfl

@[simp] theorem State.respondHandled_eq (s : State) : s.respondHandled = s.answered 0x01#8 := rfl

@[simp] theorem State.rejectRequest_eq (s : State) (ep prop : Byte) :
    s.rejectRequest ep prop = (s.answered 0x00#8).recorded (.unrecognizedRequest ep prop) := rfl

@[simp] theorem illegalCommand_eq (w : Word) (s : State) :
    illegalCommand w s = (s.answered 0x04#8).recorded (.illegalCommand w) := rfl

/-- The bytes of a 24-bit value, joined by `Decode24`, are the value. -/
theorem decode24_payloadByte (v : Freq) :
    decode24 (payloadByte v 0) (payloadByte v 1) (payloadByte v 2) = v := by
  ext i hi
  simp only [decode24, payloadByte, BitVec.getElem_or, BitVec.getElem_setWidth, BitVec.getLsbD_extractLsb',
    BitVec.getElem_shiftLeft]
  by_cases h0 : i < 8
  · simp [h0, show i < 16 by omega, BitVec.getLsbD_eq_getElem hi]
  · by_cases h1 : i < 16
    · simp [h0, h1, show i - 8 < 8 by omega, show 8 + (i - 8) = i by omega, BitVec.getLsbD_eq_getElem hi]
    · simp [h0, h1, show i - 16 < 8 by omega, show 16 + (i - 16) = i by omega, show ¬ i - 8 < 8 by omega,
        BitVec.getLsbD_eq_getElem hi]

/-- The SET payload frequency is `din` taken whole. -/
@[simp] theorem State.payloadFreq_eq_din (s : State) : s.payloadFreq = s.inputs.din :=
  decode24_payloadByte s.inputs.din

/-- The DOUT register that holds the bytes of `Encode24(f)` is f. -/
@[simp] theorem joinBytes_encode24 (f : Freq) :
    joinBytes (encode24 f).1 (encode24 f).2.1 (encode24 f).2.2 = f := by
  refine BitVec.eq_of_getLsbD_eq fun i hi => ?_
  simp only [joinBytes, encode24, BitVec.extractLsb, BitVec.getLsbD_append, BitVec.getLsbD_extractLsb']
  by_cases h0 : i < 8
  · simp [h0]
  · by_cases h1 : i < 16
    · simp [h0, show i - 8 < 8 by omega, show 8 + (i - 8) = i by omega]
    · simp [h0, show ¬ i - 8 < 8 by omega, show i - 8 - 8 < 8 by omega, show 16 + (i - 8 - 8) = i by omega]

/-- Recognition (R161) read off the operation, the property and the address. -/
theorem recognised_iff (p : Params) (op : CtrlOp) (ep prop : Byte) :
    recognised p op ep prop = true ↔
      op ≠ .other ∧ prop = 0x01#8 ∧ (ep = p.playEpAddr ∨ ep = p.capEpAddr) := by
  have hrole : (roleOf p ep).isSome = true ↔ (ep = p.playEpAddr ∨ ep = p.capEpAddr) := by
    unfold roleOf
    split
    · simp [*]
    · split <;> simp [*]
  simp [recognised, hrole, and_assoc, samplingFreq]

/-- A valid reload value fits its register, so `trunc_W` loses nothing. -/
theorem truncW_of_le_timerMax {p : Params} {v : Nat} (h : v ≤ p.timerMax) : p.truncW v = v := by
  have hpos : 0 < 2 ^ p.timerWidth := Nat.two_pow_pos _
  unfold Params.timerMax at h
  exact Nat.mod_eq_of_lt (by omega)

/-- A configuration fails exactly where the frequency is not valid. -/
theorem reloadField_eq_none_iff (p : Params) (f : Nat) : p.reloadField f = none ↔ p.reloadValid f = false := by
  unfold Params.reloadField Params.reloadValid
  cases h : p.reload f <;> simp

/-- What a configuration writes: a valid frequency gives `K div f − 1`, between 1 and 2^W − 1. -/
theorem reloadField_eq_some_iff (p : Params) (f r : Nat) :
    p.reloadField f = some r ↔ f ≠ 0 ∧ p.clockRatio / f = r + 1 ∧ 1 ≤ r ∧ r ≤ p.timerMax := by
  unfold Params.reloadField Params.reloadValid Params.reload
  by_cases hf : f = 0
  · simp [hf]
  · simp only [if_neg hf, Option.map_some]
    generalize p.clockRatio / f = q
    constructor
    · intro h
      split at h
      · rename_i hv
        simp only [Bool.and_eq_true, decide_eq_true_eq] at hv
        have hle : ((q : Int) - 1).toNat ≤ p.timerMax := by omega
        rw [truncW_of_le_timerMax hle] at h
        simp only [Option.some.injEq] at h
        omega
      · simp at h
    · rintro ⟨-, hq, h1, h2⟩
      have hr : ((q : Int) - 1).toNat = r := by omega
      rw [if_pos (by simp only [Bool.and_eq_true, decide_eq_true_eq]; omega), hr, truncW_of_le_timerMax h2]

/-- The value a configuration writes is a legal RELOAD. -/
theorem reloadField_range {p : Params} {f r : Nat} (h : p.reloadField f = some r) : 1 ≤ r ∧ r < 2 ^ p.timerWidth := by
  obtain ⟨-, -, h1, h2⟩ := (reloadField_eq_some_iff p f r).1 h
  have hpos : 0 < 2 ^ p.timerWidth := Nat.two_pow_pos _
  unfold Params.timerMax at h2
  exact ⟨h1, by omega⟩

/-- What the read of an output port gives: a faulting read exactly where the register has no value. -/
theorem readPort_faulted_iff (s : State) (read port : OutputPort) :
    (s.readPort read).portRead = .faulted port ↔ read = port ∧ s.portHasValue port = false := by
  cases hv : s.portHasValue read <;> cases read <;> cases port <;> simp_all [State.portValue]

theorem readPort_portRead_ne_noRead (s : State) (port : OutputPort) : (s.readPort port).portRead ≠ .noRead := by
  cases hv : s.portHasValue port <;> cases port <;> simp [hv, State.portValue]

end Sys2Proof.Machine
end

