-- ==== Sys2Proof/Laws/Meanings.lean ====
section
/-! SUPPORT. What each meaning can do, said once: the cases of a command, of phase 2, of the timer-clock event and of the
tick. Later proofs take these cases and do not unfold the meanings. -/

namespace Sys2Proof.Machine

theorem recognised_of_addresses {s : State} {op : CtrlOp} {ep prop : Byte} (hop : op ≠ .other)
    (h : s.Addresses ep prop) : recognised s.params op ep prop = true :=
  (recognised_iff _ _ _ _).2 ⟨hop, h⟩

theorem recognised_eq_false {s : State} {op : CtrlOp} {ep prop : Byte} (h : ¬ s.Addresses ep prop) :
    recognised s.params op ep prop = false := by
  rw [← Bool.not_eq_true, recognised_iff]
  exact fun hr => h hr.2

/-- The cases of a command that answers `t`. -/
inductive CommandCase (s t : State) : Instr → Prop where
  | nop (ht : t = s.answered 0x01#8) : CommandCase s t .nop
  | configured (f : Freq) (r : Nat) (hf : s.params.reloadField f.toNat = some r)
      (ht : t = (s.writeReload f r (if f = s.freq then .agrees else .configuredApart)).answered 0x01#8) :
      CommandCase s t (.configure f)
  | configureFailed (f : Freq) (hf : s.params.reloadValid f.toNat = false)
      (ht : t = (s.answered 0x03#8).recorded (.configurationError f)) : CommandCase s t (.configure f)
  | started (hrun : s.run = .stopped) (ht : t = s.startClock.answered 0x01#8) : CommandCase s t .start
  | startedRunning (hrun : s.run = .running) (ht : t = s.answered 0x01#8) : CommandCase s t .start
  | stopped (ht : t = s.stopClock.answered 0x01#8) : CommandCase s t .stop
  | setStored (ep prop : Byte) (h : s.Addresses ep prop) (ht : t = (s.writeFreq s.inputs.din).openWindow) :
      CommandCase s t (.ctrlSetCur ep prop true)
  | setProbed (ep prop : Byte) (h : s.Addresses ep prop) (ht : t = s.answered 0x01#8) :
      CommandCase s t (.ctrlSetCur ep prop false)
  | setRejected (ep prop : Byte) (lp : Bool) (h : ¬ s.Addresses ep prop)
      (ht : t = (s.answered 0x00#8).recorded (.unrecognizedRequest ep prop)) :
      CommandCase s t (.ctrlSetCur ep prop lp)
  | gotten (ep prop : Byte) (h : s.Addresses ep prop)
      (ht : t = (s.writeOB (encode24 s.freq)).answered 0x31#8) : CommandCase s t (.ctrlGetCur ep prop true)
  | getProbed (ep prop : Byte) (h : s.Addresses ep prop) (ht : t = s.answered 0x01#8) :
      CommandCase s t (.ctrlGetCur ep prop false)
  | getRejected (ep prop : Byte) (lp : Bool) (h : ¬ s.Addresses ep prop)
      (ht : t = (s.answered 0x00#8).recorded (.unrecognizedRequest ep prop)) :
      CommandCase s t (.ctrlGetCur ep prop lp)
  | otherRejected (ep prop : Byte) (lp : Bool)
      (ht : t = (s.answered 0x00#8).recorded (.unrecognizedRequest ep prop)) :
      CommandCase s t (.ctrlOther ep prop lp)

theorem exec_next_cases {i : Instr} {s t : State} (h : exec i s = .next t) : CommandCase s t i := by
  cases i with
  | nop => exact .nop (by simpa [exec, execNop] using h.symm)
  | configure f =>
    simp only [exec, execConfigure] at h
    split at h
    · exact .configured f _ ‹_› (by simpa using h.symm)
    · rename_i hf
      exact .configureFailed f ((reloadField_eq_none_iff _ _).1 hf) (Host.Outcome.next.inj h).symm
  | start =>
    simp only [exec, execStart] at h
    split at h
    · exact .started ‹_› (by simpa using h.symm)
    · exact .startedRunning ‹_› (by simpa using h.symm)
  | stop => exact .stopped (by simpa [exec, execStop] using h.symm)
  | ctrlSetCur ep prop lp =>
    by_cases ha : s.Addresses ep prop
    · simp only [exec, execCtrlSetCur, recognised_of_addresses (show CtrlOp.setCur ≠ .other by decide) ha, if_true] at h
      cases lp with
      | false => exact .setProbed ep prop ha (by simpa using h.symm)
      | true => exact .setStored ep prop ha (by simpa using h.symm)
    · simp only [exec, execCtrlSetCur, recognised_eq_false ha, Bool.false_eq_true, if_false] at h
      exact .setRejected ep prop lp ha (by simpa using h.symm)
  | ctrlGetCur ep prop lp =>
    by_cases ha : s.Addresses ep prop
    · simp only [exec, execCtrlGetCur, recognised_of_addresses (show CtrlOp.getCur ≠ .other by decide) ha, if_true] at h
      cases lp with
      | false => exact .getProbed ep prop ha (by simpa using h.symm)
      | true => exact .gotten ep prop ha (Host.Outcome.next.inj h).symm
    · simp only [exec, execCtrlGetCur, recognised_eq_false ha, Bool.false_eq_true, if_false] at h
      exact .getRejected ep prop lp ha (by simpa using h.symm)
  | ctrlOther ep prop lp => exact .otherRejected ep prop lp (by simpa [exec, execCtrlOther] using h.symm)

/-- The cases of phase 2 of CTRL_SET_CUR. -/
inductive Phase2Case (s t : State) : Prop where
  | configured (r : Nat) (hf : s.params.reloadField s.freq.toNat = some r)
      (ht : t = (s.writeReload s.freq r .agrees).closeWindow.answered 0x01#8)
  | failed (hf : s.params.reloadValid s.freq.toNat = false)
      (ht : t = (s.recorded (.configurationError s.freq)).markSetFailed.closeWindow.answered 0x01#8)

theorem reconfigure_cases (s : State) : Phase2Case s (reconfigure s) := by
  unfold reconfigure
  split
  · exact .configured _ ‹_› rfl
  · rename_i hf
    exact .failed ((reloadField_eq_none_iff _ _).1 hf) rfl

/-- The cases of the timer-clock event. -/
inductive TimerCase (s t : State) : Prop where
  | stopped (hrun : s.run = .stopped) (ht : t = s)
  | requested (hrun : s.run = .running) (hc : s.reload ≤ s.count) (hp : s.tickPending = false)
      (ht : t = s.requestTick)
  | overrun (hrun : s.run = .running) (hc : s.reload ≤ s.count) (hp : s.tickPending = true)
      (ht : t = s.requestTick.recorded .tickOverrun)
  | counted (hrun : s.run = .running) (hc : s.count < s.reload) (ht : t = s.countUp)

theorem timerClock_cases (s : State) : TimerCase s (timerClock s) := by
  unfold timerClock
  cases hrun : s.run with
  | stopped => exact .stopped hrun rfl
  | running =>
    by_cases hc : s.reload ≤ s.count
    · cases hp : s.tickPending with
      | false => exact .requested hrun hc hp (by simp [hc])
      | true => exact .overrun hrun hc hp (by simp [hc, State.raise_eq_recorded])
    · exact .counted hrun (by omega) (by simp [hc])

/-- The cases of the tick. -/
inductive TickCase (s t : State) : Prop where
  | noFrame (hf : s.inputs.fsAvail = false) (ht : t = s.enterTick.recorded .frameUnavailable)
  | written (hf : s.inputs.fsAvail = true) (hr : s.inputs.sinkReady = true)
      (ht : t = s.enterTick.readFrame.writeSink (sampleByte s.inputs.fsLeft s.inputs.fsRight))
  | dropped (hf : s.inputs.fsAvail = true) (hr : s.inputs.sinkReady = false)
      (ht : t = s.enterTick.readFrame.recorded (.sinkBusy (sampleByte s.inputs.fsLeft s.inputs.fsRight)))

theorem tick_cases (s : State) : TickCase s (tick s) := by
  cases hf : s.inputs.fsAvail with
  | false => exact .noFrame hf (by simp [tick, hf, State.raise_eq_recorded])
  | true =>
    cases hr : s.inputs.sinkReady with
    | false => exact .dropped hf hr (by simp [tick, emitSample, hf, hr, State.raise_eq_recorded])
    | true => exact .written hf hr (by simp [tick, emitSample, hf, hr])

end Sys2Proof.Machine
end

