-- ==== Sys2Proof/Laws/PerInstr.lean ====
section
/-! SUPPORT. The family MatchesTable, one lemma per constructor: the word of a command matches its row of
opcode_table.json (its "mask" and "match"). -/

namespace Sys2Proof.Laws.MatchesTable

/-- The "mask" of the command's row. -/
def tableMask : Instr → Word
  | .nop | .start | .stop => 0xFFFFFFFF#32
  | .configure _          => 0x000000FF#32
  | .ctrlSetCur _ _ _ | .ctrlGetCur _ _ _ | .ctrlOther _ _ _ => 0xFF0000EF#32

/-- The "match" of the command's row. -/
def tableMatch : Instr → Word
  | .nop              => 0x00000000#32
  | .configure _      => 0x00000001#32
  | .start            => 0x00000002#32
  | .stop             => 0x00000003#32
  | .ctrlSetCur _ _ _ => 0x00000004#32
  | .ctrlGetCur _ _ _ => 0x00000005#32
  | .ctrlOther _ _ _  => 0x00000006#32

def Statement (i : Instr) : Prop := encode i &&& tableMask i = tableMatch i

theorem maskC (ep prop : Byte) (lp : Bool) (op : BitVec 4) :
    formatC ep prop lp op &&& 0xFF0000EF#32 = op.setWidth 32 := by
  refine BitVec.eq_of_getLsbD_eq fun i hi => ?_
  simp only [formatC, BitVec.getLsbD_and, BitVec.getLsbD_append, BitVec.getLsbD_setWidth]
  interval_cases i <;> simp

theorem nop : Statement .nop := rfl

theorem configure (freq : Freq) : Statement (.configure freq) := by
  refine BitVec.eq_of_getLsbD_eq fun i hi => ?_
  simp only [encode, formatF, tableMask, tableMatch, BitVec.getLsbD_and, BitVec.getLsbD_append]
  interval_cases i <;> simp

theorem start : Statement .start := rfl

theorem stop : Statement .stop := rfl

theorem ctrlSetCur (ep prop : Byte) (lp : Bool) : Statement (.ctrlSetCur ep prop lp) :=
  maskC ep prop lp 0x4#4

theorem ctrlGetCur (ep prop : Byte) (lp : Bool) : Statement (.ctrlGetCur ep prop lp) :=
  maskC ep prop lp 0x5#4

theorem ctrlOther (ep prop : Byte) (lp : Bool) : Statement (.ctrlOther ep prop lp) :=
  maskC ep prop lp 0x6#4

end Sys2Proof.Laws.MatchesTable
end

