-- ==== Sys2Proof/Laws/Step.lean ====
section
/-! SUPPORT. What a step can do, said once: every step that answers a next state is one of the steps of `StepCase`. -/

namespace Sys2Proof.Machine

/-- The ways a step leads from `s` to `t` (10_state.md R20). -/
inductive StepCase (s t : State) : Prop where
  | reset (hrst : s.inputs.rst = true) (ht : t = resetStep s.beginStep ∨
      (∃ lines, s.turn = .env lines ∧ t = (resetStep s.beginStep).setInputs lines) ∨
      ∃ port, s.turn = .read port ∧ t = (resetStep s.beginStep).readPort port)
  | command (i : Instr) (h : s.Accepts i) (ht : exec i s.beginStep.acceptCommand = .next t)
  | illegal (h : s.AcceptsIllegal) (ht : t = illegalCommand s.inputs.cmdWord s.beginStep.acceptCommand)
  | phase2 (h : s.TakesPhase2) (ht : t = reconfigure s.beginStep)
  | timerClock (h : s.TakesTimerClock) (ht : t = timerClock s.beginStep.takeTimerPulse)
  | tick (h : s.TakesTick) (ht : t = tick s.beginStep)
  | environment (lines : Inputs) (hrst : s.inputs.rst = false) (h : s.turn = .env lines)
      (ht : t = s.beginStep.setInputs lines)
  | read (port : OutputPort) (hrst : s.inputs.rst = false) (h : s.turn = .read port)
      (ht : t = s.beginStep.readPort port)
  | nothing (hrst : s.inputs.rst = false)
      (hquiet : ¬ s.AcceptsWord ∧ ¬ s.TakesPhase2 ∧ ¬ s.TakesTimerClock ∧ ¬ s.TakesTick) (ht : t = s.beginStep)

theorem step_wellFormed {s : State} {o : Host.Outcome State Fault Refusal} (hp : s.params.wellFormed = true)
    (h : step s = o) : takeTurn s.turn s.beginStep = o := by
  simpa [step, hp] using h

/-- Only a machine with well-formed parameters moves. -/
theorem step_next_params {s t : State} (h : step s = .next t) : s.params.wellFormed = true := by
  unfold step at h
  split at h
  · assumption
  · cases h

/-- A step under reset. -/
theorem agentTurn_under_reset {s u : State} {t : Turn} (hrst : s.inputs.rst = true)
    (h : agentTurn t (resetStep s) = .next u) :
    u = resetStep s ∨ (∃ lines, t = .env lines ∧ u = (resetStep s).setInputs lines) ∨
      ∃ port, t = .read port ∧ u = (resetStep s).readPort port := by
  cases t with
  | env lines => right; left; exact ⟨lines, rfl, by simpa [agentTurn] using h.symm⟩
  | ctl => left; simpa [agentTurn, ctlTurn, hrst] using h.symm
  | tmr => left; simpa [agentTurn, tmrTurn, hrst] using h.symm
  | isr => left; simpa [agentTurn, isrTurn, hrst] using h.symm
  | rst => left; simpa [agentTurn] using h.symm
  | idle => left; simpa [agentTurn] using h.symm
  | read port => right; right; exact ⟨port, rfl, by simpa [agentTurn] using h.symm⟩

theorem step_next_cases {s t : State} (h : step s = .next t) : StepCase s t := by
  have hp := step_next_params h
  have ht := step_wellFormed hp h
  unfold takeTurn rstTurn at ht
  cases hrst : s.inputs.rst with
  | true =>
    simp only [State.beginStep_inputs, hrst, if_true] at ht
    exact .reset hrst (agentTurn_under_reset (by simpa using hrst) ht)
  | false =>
    simp only [State.beginStep_inputs, hrst, Bool.false_eq_true, if_false] at ht
    have hlive : s.Live := ⟨hp, hrst⟩
    cases hturn : s.turn with
    | ctl =>
      simp only [hturn, agentTurn, ctlTurn, State.beginStep_inputs, hrst, Bool.false_eq_true, if_false,
        State.beginStep_ctlPhase] at ht
      cases hphase : s.ctlPhase with
      | setReconf =>
        simp only [hphase, Host.Outcome.next.injEq] at ht
        exact .phase2 ⟨hlive, hturn, hphase⟩ ht.symm
      | idle =>
        simp only [hphase] at ht
        cases hvalid : s.inputs.cmdValid with
        | false =>
          simp only [hvalid, Bool.false_eq_true, if_false, Host.Outcome.next.injEq] at ht
          exact .nothing hrst (by simp [*]) ht.symm
        | true =>
          simp only [hvalid, if_true, acceptTurn, State.beginStep_inputs] at ht
          have hacc : s.AcceptsWord := ⟨hlive, hturn, by simp [State.cmdReady, hrst, hphase], hvalid⟩
          cases hdec : decode s.inputs.cmdWord with
          | none =>
            simp only [hdec, Host.Outcome.next.injEq] at ht
            exact .illegal ⟨hacc, hdec⟩ ht.symm
          | some i => exact .command i ⟨hacc, hdec⟩ (by simpa only [hdec] using ht)
    | tmr =>
      simp only [hturn, agentTurn, tmrTurn, State.beginStep_inputs, hrst, Bool.not_false, Bool.true_and,
        Host.Outcome.next.injEq] at ht
      cases hen : s.inputs.tmrClkEn with
      | true => exact .timerClock ⟨hlive, hturn, hen⟩ (by simpa only [hen, if_true] using ht.symm)
      | false => exact .nothing hrst (by simp [*]) (by simpa only [hen, Bool.false_eq_true, if_false] using ht.symm)
    | isr =>
      simp only [hturn, agentTurn, isrTurn, State.beginStep_inputs, hrst, Bool.not_false, Bool.true_and,
        State.beginStep_tickPending, Host.Outcome.next.injEq] at ht
      cases hp : s.tickPending with
      | true => exact .tick ⟨hlive, hturn, hp⟩ (by simpa only [hp, if_true] using ht.symm)
      | false => exact .nothing hrst (by simp [*]) (by simpa only [hp, Bool.false_eq_true, if_false] using ht.symm)
    | env lines =>
      simp only [hturn, agentTurn, Host.Outcome.next.injEq] at ht
      exact .environment lines hrst hturn ht.symm
    | rst =>
      simp only [hturn, agentTurn, Host.Outcome.next.injEq] at ht
      exact .nothing hrst (by simp [*]) ht.symm
    | idle =>
      simp only [hturn, agentTurn, Host.Outcome.next.injEq] at ht
      exact .nothing hrst (by simp [*]) ht.symm
    | read port =>
      simp only [hturn, agentTurn, Host.Outcome.next.injEq] at ht
      exact .read port hrst hturn ht.symm

/-! What a step does when its agent's step is enabled. -/

theorem step_of_acceptsWord {s : State} (h : s.AcceptsWord) : step s = acceptTurn s.beginStep := by
  obtain ⟨⟨hp, hrst⟩, hturn, hready, hvalid⟩ := h
  have hidle : s.ctlPhase = .idle := by simpa [State.cmdReady, hrst] using hready
  simp [step, hp, takeTurn, rstTurn, hrst, hturn, agentTurn, ctlTurn, hidle, hvalid]

theorem step_of_takesPhase2 {s : State} (h : s.TakesPhase2) : step s = .next (reconfigure s.beginStep) := by
  obtain ⟨⟨hp, hrst⟩, hturn, hphase⟩ := h
  simp [step, hp, takeTurn, rstTurn, hrst, hturn, agentTurn, ctlTurn, hphase]

theorem step_of_takesTimerClock {s : State} (h : s.TakesTimerClock) :
    step s = .next (timerClock s.beginStep.takeTimerPulse) := by
  obtain ⟨⟨hp, hrst⟩, hturn, hen⟩ := h
  simp [step, hp, takeTurn, rstTurn, hrst, hturn, agentTurn, tmrTurn, hen]

theorem step_of_takesTick {s : State} (h : s.TakesTick) : step s = .next (tick s.beginStep) := by
  obtain ⟨⟨hp, hrst⟩, hturn, hpend⟩ := h
  simp [step, hp, takeTurn, rstTurn, hrst, hturn, agentTurn, isrTurn, hpend]

/-! Runs of the host's machine, one step at a time. -/

theorem run_succ_of_next {n : Nat} {s t : State} (h : step s = .next t) :
    Host.Core.run core (n + 1) s = Host.Core.run core n t := by
  have hc : core.step s = .next t := h
  simp only [Host.Core.run, hc]

theorem run_succ_of_fault {n : Nat} {s : State} {f : Fault} (h : step s = .fault f) :
    Host.Core.run core (n + 1) s = .fault f := by
  have hc : core.step s = .fault f := h
  simp only [Host.Core.run, hc]

theorem run_succ_of_refused {n : Nat} {s : State} {r : Refusal} (h : step s = .refused r) :
    Host.Core.run core (n + 1) s = .refused r := by
  have hc : core.step s = .refused r := h
  simp only [Host.Core.run, hc]

end Sys2Proof.Machine
end

