-- ==== Sys2Proof/Tests/Slice0.lean ====
section
/-! SUPPORT. The model's own tests. Expected results come from the spec: the words of 30_encoding.md R78, R79 and the
vectors of 95_test_vectors.md. At the end, one witness for each statement with hypotheses. -/

namespace Sys2Proof.Tests

open Sys2Proof Sys2Proof.Machine

/-- The state an outcome leads to, if it is a next state. -/
def nextOf (o : Host.Outcome State Fault Refusal) : Option State :=
  match o with
  | .next t    => some t
  | .fault _   => none
  | .refused _ => none

/-- The EX reset state with `w` and `din` presented on the command port. -/
def present (w : Word) (din : Freq) : State :=
  { State.reset with
    inputs := { Inputs.quiet with cmdValid := true, cmdWord := w, din := din }
    schedule := [.ctl] }

/-- The state one step later, or the state itself where the step stops. -/
def stepped (s : State) : State := (nextOf (step s)).getD s

/-- A running clock with the given COUNT, RELOAD and TICK_PENDING, about to take a timer-clock event. -/
def clockAt (count reload : Nat) (pending : Bool) : State :=
  { State.reset with
    run := .running, count := count, reload := reload, tickPending := pending
    inputs := { Inputs.quiet with tmrClkEn := true }
    schedule := [.tmr] }

/-- A pending tick with the given lines, about to be taken. -/
def tickWith (avail : Bool) (l r : Sample) (ready : Bool) : State :=
  { State.reset with
    run := .running, tickPending := true
    inputs := { Inputs.quiet with fsAvail := avail, fsLeft := l, fsRight := r, sinkReady := ready }
    schedule := [.isr] }

/-! ### Decoding: words written out bit by bit from R70 and R79 -/

theorem test_decode_nop : decode 0b00000000000000000000000000000000#32 = some .nop := by decide
theorem test_decode_configure : decode 0b00000000101110111000000000000001#32 = some (.configure 48000#24) := by decide
theorem test_decode_start : decode 0b00000000000000000000000000000010#32 = some .start := by decide
theorem test_decode_stop : decode 0b00000000000000000000000000000011#32 = some .stop := by decide
theorem test_decode_setCur :
    decode 0b00000000100000100000000100010100#32 = some (.ctrlSetCur 0x82#8 0x01#8 true) := by decide
theorem test_decode_getCur :
    decode 0b00000000000000010000000100000101#32 = some (.ctrlGetCur 0x01#8 0x01#8 false) := by decide
theorem test_decode_other :
    decode 0b00000000000000011000001000010110#32 = some (.ctrlOther 0x01#8 0x82#8 true) := by decide
theorem test_decode_illegal :
    [0x00000010#32, 0x000000F1#32, 0x80000002#32, 0x00010134#32, 0x01010114#32, 0x00000007#32, 0x00000008#32,
      0x0000000F#32, 0xFFFFFFFF#32].map decode = List.replicate 9 none := by decide
theorem test_decodeTableWord : decodeTableWord 32 0x00820115 = some (.ctrlGetCur 0x82#8 0x01#8 true) := by decide

theorem test_assemble_set_freq :
    (AsmLine.setFreq 0x01 48000).assemble = some { cmdWord := 0x00010114#32, din := some 0x00BB80#24 } := by decide
theorem test_assemble_out_of_range : (AsmLine.configure 16777216).assemble = none := by decide

/-! ### Well-formedness: an ill-formed term for each check -/

theorem test_ex_wellFormed : Params.ex.wellFormed = true := by decide
theorem test_width_refused : ({ Params.ex with timerWidth := 1 } : Params).wellFormed = false := by decide
theorem test_baseClk_refused : ({ Params.ex with baseClk := 0 } : Params).wellFormed = false := by decide
theorem test_prescaler_refused : ({ Params.ex with prescaler := 0 } : Params).wellFormed = false := by decide
theorem test_same_endpoints_refused :
    ({ Params.ex with capture := Params.ex.playback } : Params).wellFormed = false := by decide
theorem test_initFreq_refused : ({ Params.ex with initFreq := 30#24 } : Params).wellFormed = false := by decide
theorem test_asm_lines_refused :
    ([.configure 16777216, .ctrlSetCur 256 1 0, .ctrlSetCur 1 256 0, .ctrlSetCur 1 1 16777216, .ctrlGetCur 256 1,
      .ctrlGetCur 1 256, .word 4294967296, .setFreq 256 1, .setFreq 1 16777216, .getFreq 256] : List AsmLine).map
      AsmLine.wellFormed = List.replicate 10 false := by decide

/-! ### Reset, the reload function, the codec and the downmixer (95_test_vectors.md 2.1, 2.3, 2.4) -/

theorem test_reset_reload : State.reset.freq = 44100#24 ∧ State.reset.reload = 44 := by decide
theorem test_reload_vectors :
    [0, 1, 30, 31, 8000, 22050, 96000, 1000000, 1000001, 2000001].map Params.ex.reloadField =
      [none, none, none, some 64515, some 249, some 89, some 19, some 1, none, none] := by decide
theorem test_downmix_vectors :
    [sampleByte 0x7FFF#16 0x8000#16, sampleByte 0xFFFF#16 0x0000#16, sampleByte 0x01FF#16 0x00FF#16,
      sampleByte 0x8000#16 0x0000#16, sampleByte 0x1234#16 0x5678#16, sampleByte 0x8001#16 0xFFFE#16] =
      [0x7F#8, 0x7F#8, 0x80#8, 0x40#8, 0xB4#8, 0x3F#8] := by decide
theorem test_codec_vector :
    decode24 0x56#8 0x34#8 0x12#8 = 0x123456#24 ∧ encode24 0x123456#24 = (0x56#8, 0x34#8, 0x12#8) := by decide

/-! ### The commands, one step each (95_test_vectors.md 2.1, 2.2, 2.4) -/

theorem test_nop : (nextOf (step (present 0x00000000#32 0#24))).map (fun t => (t.resp, t.respValid)) =
    some (0x01#8, true) := by decide
theorem test_configure_valid :
    (nextOf (step (present 0x00BB8001#32 0#24))).map (fun t => (t.resp, t.reload, t.freq)) =
      some (0x01#8, 40, 44100#24) := by decide
theorem test_configure_invalid :
    (nextOf (step (present 0x00001E01#32 0#24))).map (fun t => (t.resp, t.reload, t.outcome)) =
      some (0x03#8, 44, .configurationError 30#24) := by decide
theorem test_start_from_stopped :
    (nextOf (exec .start { State.reset with count := 17 })).map (fun t => (t.run, t.count, t.tickPending)) =
      some (.running, 0, false) := by decide
theorem test_start_while_running :
    (nextOf (exec .start (clockAt 17 44 true))).map (fun t => (t.run, t.count, t.tickPending)) =
      some (.running, 17, true) := by decide
theorem test_stop :
    (nextOf (exec .stop (clockAt 17 44 true))).map (fun t => (t.run, t.count, t.tickPending, t.resp)) =
      some (.stopped, 17, false, 0x01#8) := by decide
theorem test_set_phase1 :
    (nextOf (step (present 0x00010114#32 0x00BB80#24))).map (fun t => (t.freq, t.reload, t.cmdReady, t.respValid)) =
      some (48000#24, 44, false, false) := by decide
theorem test_set_phase2_invalid :
    (nextOf (step { State.reset with freq := 2000000#24, ctlPhase := .setReconf, schedule := [.ctl] })).map
      (fun t => (t.resp, t.reload, t.freq, t.outcome)) =
      some (0x01#8, 44, 2000000#24, .configurationError 2000000#24) := by decide
theorem test_get : (nextOf (step (present 0x00820115#32 0#24))).map (fun t => (t.resp, t.dout, t.ob 0)) =
    some (0x31#8, 0x00AC44#24, 0x44#8) := by decide
theorem test_get_unrecognised :
    (nextOf (step (present 0x00020115#32 0#24))).map (fun t => (t.resp, t.doutHasValue, t.outcome)) =
      some (0x00#8, false, .unrecognizedRequest 0x02#8 0x01#8) := by decide
theorem test_other : (nextOf (step (present 0x00010116#32 0#24))).map (fun t => (t.resp, t.freq)) =
    some (0x00#8, 44100#24) := by decide
theorem test_illegal : (nextOf (step (present 0x00000008#32 0#24))).map (fun t => (t.resp, t.outcome)) =
    some (0x04#8, .illegalCommand 0x00000008#32) := by decide

/-! ### The internal steps (95_test_vectors.md 2.2, 2.3) -/

theorem test_timer_counts : (nextOf (step (clockAt 0 1 false))).map (fun t => (t.count, t.tickPending)) =
    some (1, false) := by decide
theorem test_timer_overrun : (nextOf (step (clockAt 1 1 true))).map (fun t => (t.count, t.tickPending, t.outcome)) =
    some (0, true, .tickOverrun) := by decide
theorem test_timer_early_tick : (nextOf (step (clockAt 30 19 false))).map (fun t => (t.count, t.tickPending)) =
    some (0, true) := by decide
theorem test_timer_top : (nextOf (step (clockAt 65535 65535 false))).map (fun t => (t.count, t.tickPending)) =
    some (0, true) := by decide
theorem test_tick_writes :
    (nextOf (step (tickWith true 0x1234#16 0x5678#16 true))).map (fun t => (t.fsRd, t.sinkWe, t.sinkData)) =
      some (true, true, 0xB4#8) := by decide
theorem test_tick_drops :
    (nextOf (step (tickWith true 0x8000#16 0x0000#16 false))).map (fun t => (t.fsRd, t.sinkWe, t.outcome)) =
      some (true, false, .sinkBusy 0x40#8) := by decide
theorem test_tick_no_frame :
    (nextOf (step (tickWith false 0#16 0#16 true))).map (fun t => (t.fsRd, t.sinkWe, t.outcome, t.tickPending)) =
      some (false, false, .frameUnavailable, false) := by decide
theorem test_reset_in_window :
    (nextOf (step { State.reset with
      freq := 48000#24, ctlPhase := .setReconf, inputs := { Inputs.quiet with rst := true }, schedule := [.ctl] })).map
      (fun t => (t.freq, t.reload, t.ctlPhase, t.respValid)) = some (44100#24, 44, .idle, false) := by decide
theorem test_withFetchWord :
    (nextOf (step (State.reset.withFetchWord 32 0x00BB8001))).map (fun t => (t.reload, t.resp)) =
      some (40, 0x01#8) := by decide

/-! ### Witnesses: a state and operands that meet all hypotheses of each statement -/

theorem witness_DecodedWordIsTheEncodedOne : decode 0x00BB8001#32 = some (.configure 48000#24) := by decide

theorem witness_AssembledLineDecodesToItsCommand :
    (AsmLine.ctrlSetCur 255 255 16777215).wellFormed = true ∧
      (AsmLine.ctrlSetCur 255 255 16777215).command = some (.ctrlSetCur 255#8 255#8 true) := by decide

/-- R102's corners under EX: 30, 31, 1000000, 1000001; and F = 0 and F = 1 (R101). -/
theorem witness_ReloadValid_corners :
    [30, 31, 1000000, 1000001, 0, 1].map Params.ex.reloadValid = [false, true, true, false, false, false] := by decide

theorem witness_ConfigureProgramsTheClock : State.reset.params.reloadValid (31#24).toNat = true := by decide

theorem witness_ConfigureRejectsInvalidFrequency : State.reset.params.reloadValid (0#24).toNat = false := by decide

theorem witness_ConfigureIsIdempotent :
    ∃ a c, exec (.configure 48000#24) State.reset = .next a ∧ RunWhere State.TimerDomain a a ∧
      exec (.configure 48000#24) a = .next c :=
  ⟨_, _, rfl, .refl _, rfl⟩

theorem witness_StartBeginsAPeriod : State.reset.run = .stopped ∧ (clockAt 17 44 true).run = .running := by decide

theorem witness_Addresses :
    State.reset.Addresses 0x01#8 0x01#8 ∧ State.reset.Addresses 0x82#8 0x01#8 ∧
      ¬ State.reset.Addresses 0x81#8 0x01#8 ∧ ¬ State.reset.Addresses 0x01#8 0x02#8 := by decide

theorem witness_HandledExactlyWhenRecognised :
    ∃ t, exec (.ctrlGetCur 0x01#8 0x01#8 true) State.reset = .next t ∧ t.ctlPhase = State.reset.ctlPhase ∧
      State.reset.ctlPhase = .idle :=
  ⟨_, rfl, rfl, rfl⟩

theorem witness_CommandsChangeOnlyTheirRegisters :
    (∃ t, exec .start State.reset = .next t) ∧ (∃ t, exec .start (clockAt 0 1 true) = .next t) ∧
      (∃ t, exec (.ctrlSetCur 0x01#8 0x01#8 true) State.reset = .next t) ∧
      ∃ t, exec (.ctrlGetCur 0x82#8 0x01#8 true) State.reset = .next t :=
  ⟨⟨_, rfl⟩, ⟨_, rfl⟩, ⟨_, rfl⟩, ⟨_, rfl⟩⟩

theorem witness_StepRunsTheDecodedCommand : (present 0x00000002#32 0#24).Accepts .start := by decide

theorem witness_IllegalWordOnlyAnswers : (present 0x00000007#32 0#24).AcceptsIllegal := by decide

/-- A SET window with a valid and with an invalid FREQ. -/
theorem witness_FailedSetIsSwallowed :
    (stepped { present 0x00010114#32 0x00BB80#24 with schedule := [.ctl, .ctl] }).TakesPhase2 ∧
      (stepped { present 0x00010114#32 0x000000#24 with schedule := [.ctl, .ctl] }).TakesPhase2 := by decide

/-- SET 48000 accepted in `setGet0`; phase 2; then the host presents a GET through the other endpoint. -/
def setGet0 : State :=
  { present 0x00010114#32 0x00BB80#24 with
    schedule := [.ctl, .ctl, .env { Inputs.quiet with cmdValid := true, cmdWord := 0x00820115#32 }, .ctl] }

theorem witness_SetThenGetRoundTrip :
    setGet0.Addresses 0x01#8 0x01#8 ∧ setGet0.Addresses 0x82#8 0x01#8 ∧
    setGet0.Accepts (.ctrlSetCur 0x01#8 0x01#8 true) ∧ step setGet0 = .next (stepped setGet0) ∧
    RunWhere State.TimerDomain (stepped setGet0) (stepped setGet0) ∧ (stepped setGet0).TakesPhase2 ∧
    step (stepped setGet0) = .next (stepped (stepped setGet0)) ∧
    RunWhere State.TimerDomain (stepped (stepped setGet0)) (stepped (stepped (stepped setGet0))) ∧
    (stepped (stepped (stepped setGet0))).Accepts (.ctrlGetCur 0x82#8 0x01#8 true) ∧
    step (stepped (stepped (stepped setGet0))) = .next (stepped (stepped (stepped (stepped setGet0)))) :=
  ⟨by decide, by decide, by decide, rfl, .refl _, by decide, rfl,
    .step (.refl _) ⟨rfl, .inr (.inr (.inr ⟨_, rfl⟩))⟩ rfl, by decide, rfl⟩

/-- Stopped, at the threshold, above it, and just below it. -/
theorem witness_TimerClockEventCounts :
    ({ clockAt 5 44 false with run := .stopped } : State).TakesTimerClock ∧
    (clockAt 1 1 true).TakesTimerClock ∧ (clockAt 30 19 false).TakesTimerClock ∧
    (clockAt 0 1 false).TakesTimerClock ∧ (clockAt 65535 65535 false).reload < 2 ^ Params.ex.timerWidth := by decide

theorem witness_NoTickBetweenStopAndStart :
    ∃ a, exec .stop (clockAt 17 44 true) = .next a ∧ RunWhere (fun u => ¬ u.Accepts .start) a (stepped a) :=
  ⟨_, rfl, .step (.refl _) (by decide) rfl⟩

theorem witness_ReloadRulesThePeriod :
    (clockAt 30 19 false).run = .running ∧ (clockAt 30 19 false).reload < 2 ^ Params.ex.timerWidth := by decide

/-- The three cases of the tick, and two ticks that see the same lines and differ in FREQ. -/
theorem witness_TakesTick :
    (tickWith false 0#16 0#16 true).TakesTick ∧ (tickWith true 0x1234#16 0x5678#16 true).TakesTick ∧
    (tickWith true 0x8000#16 0#16 false).TakesTick ∧
    ({ tickWith true 0x1234#16 0x5678#16 true with freq := 1#24 } : State).TakesTick := by decide

theorem witness_tick_steps :
    ∃ t t', step (tickWith true 0x1234#16 0x5678#16 true) = .next t ∧
      step { tickWith true 0x1234#16 0x5678#16 true with freq := 1#24 } = .next t' :=
  ⟨_, _, rfl, rfl⟩

theorem witness_SinkWritesNeverExceedTicks :
    ∃ t, Host.Core.run core 1 (tickWith true 0x1234#16 0x5678#16 true) = .next t ∧ t.sinkWe = true :=
  ⟨_, rfl, rfl⟩

/-- The EX reset state under reset. -/
def inReset (turn : Turn) : State :=
  { State.reset with inputs := { Inputs.quiet with rst := true }, schedule := [turn] }

theorem witness_ResetStepSetsTheRegisters :
    (inReset .ctl).TakesReset ∧
    (∀ port ∈ [OutputPort.resp, .dout, .sinkData],
      ({ State.reset with schedule := [.read port] } : State).turn = .read port ∧
        State.reset.portHasValue port = false) ∧
    ((inReset (.read .resp)).turn = .read .resp ∧ (inReset (.read .resp)).inputs.rst = true) ∧
    ({ Params.ex with initFreq := 0#24 } : Params).reloadValid 0 = false := by decide

theorem witness_ResetExcludesEveryOtherStep :
    (∃ t, step (inReset .ctl) = .next t) ∧ (∃ t, step (inReset (.env .quiet)) = .next t) ∧
      ∃ t, step (inReset (.read .dout)) = .next t ∧ t.portRead = .faulted .dout :=
  ⟨⟨_, rfl⟩, ⟨_, rfl⟩, ⟨_, rfl, rfl⟩⟩

/-- A machine whose output registers all have values and whose next turn is the given one. -/
def answeredAll (turn : Turn) : State :=
  { State.reset with
    resp := 0x31#8, dout := 44100#24, sinkData := 0xB4#8
    respHasValue := true, doutHasValue := true, sinkDataHasValue := true, schedule := [turn] }

/-- The three reads, before and after the register behind the port has a value (R27, R230). -/
theorem witness_OutputReadsGiveTheValueOrFault :
    (answeredAll (.read .resp)).Live ∧ (answeredAll (.read .resp)).ReadsOutput ∧
    ([OutputPort.resp, .dout, .sinkData].map fun p => (nextOf (step (answeredAll (.read p)))).map State.portRead) =
      [some (.resp 0x31#8), some (.dout 44100#24), some (.sinkData 0xB4#8)] ∧
    ([OutputPort.resp, .dout, .sinkData].map fun p =>
      (nextOf (step { State.reset with schedule := [.read p] })).map State.portRead) =
      [some (.faulted .resp), some (.faulted .dout), some (.faulted .sinkData)] := by decide

/-- A faulting read leaves the block running: the tick that comes next is taken. -/
theorem test_faulting_read_goes_on :
    (nextOf (step (stepped { tickWith true 0x1234#16 0x5678#16 true with schedule := [.read .resp, .isr] }))).map
      State.sinkData = some 0xB4#8 := by decide

/-- Steps with `rst = 0` that write FREQ, RELOAD, RUN and DOUT, for the whole-machine rules. -/
theorem witness_register_writing_steps :
    (nextOf (step (present 0x00010114#32 0x00BB80#24))).map State.freq = some 48000#24 ∧
    (nextOf (step (present 0x00BB8001#32 0#24))).map State.registry = some .configuredApart ∧
    (nextOf (step (present 0x00000002#32 0#24))).map State.run = some .running ∧
    (nextOf (step { clockAt 0 1 false with
      inputs := { Inputs.quiet with cmdValid := true, cmdWord := 3#32 }, schedule := [.ctl] })).map State.run =
        some .stopped ∧
    (nextOf (step (present 0x00010115#32 0#24))).map State.doutHasValue = some true ∧
    (present 0x00010115#32 0#24).inputs.rst = false := by decide

/-- A SET window whose FREQ cannot be realised, about to take phase 2. -/
def failingWindow : State := { State.reset with freq := 0#24, ctlPhase := .setReconf, schedule := [.ctl] }

theorem witness_RegistryCase_setFailed :
    (nextOf (step failingWindow)).map State.registry = some .setFailed := by decide

/-- The two steps that part FREQ and Fcfg, cases (b) and (c) of R36, from states that meet the invariant. -/
theorem witness_RegistryAndClockPartOnlyAsStated :
    failingWindow.Inv ∧ failingWindow.TakesPhase2 ∧ (∃ t, step failingWindow = .next t) ∧
    (stepped failingWindow).ctlPhase = .idle ∧ (stepped failingWindow).freq ≠ (stepped failingWindow).fcfg ∧
    failingWindow.params.reloadValid failingWindow.freq.toNat = false ∧
    (present 0x00BB8001#32 0#24).Inv ∧ (present 0x00BB8001#32 0#24).Accepts (.configure 48000#24) ∧
    (∃ t, step (present 0x00BB8001#32 0#24) = .next t) ∧
    (stepped (present 0x00BB8001#32 0#24)).freq ≠ (stepped (present 0x00BB8001#32 0#24)).fcfg :=
  ⟨by constructor <;> decide, by decide, ⟨_, rfl⟩, by decide, by decide, by decide,
    by constructor <;> decide, by decide, ⟨_, rfl⟩, by decide⟩

/-- Steps that write COUNT, TICK_PENDING and CTL_PHASE, one for each named writer. -/
theorem witness_CounterTickAndPhaseHaveNamedWriters :
    (nextOf (step (clockAt 0 1 false))).map State.count = some 1 ∧
    (nextOf (step (clockAt 1 1 false))).map State.tickPending = some true ∧
    (nextOf (step { present 0x00000002#32 0#24 with count := 17, tickPending := true })).map
      (fun t => (t.count, t.tickPending)) = some (0, false) ∧
    (nextOf (step { present 0x00000003#32 0#24 with run := .running, tickPending := true })).map State.tickPending =
      some false ∧
    (nextOf (step (tickWith false 0#16 0#16 true))).map State.tickPending = some false ∧
    (nextOf (step (present 0x00010114#32 0#24))).map State.ctlPhase = some .setReconf ∧
    (nextOf (step failingWindow)).map State.ctlPhase = some .idle ∧
    (nextOf (step { clockAt 17 44 true with
      ctlPhase := .setReconf, inputs := { Inputs.quiet with rst := true }, schedule := [.rst] })).map
        (fun t => (t.count, t.tickPending, t.ctlPhase)) = some (0, false, .idle) := by decide

/-- The EX reset state about to give the turn to an agent. -/
def idleAt (turn : Turn) : State := { State.reset with schedule := [turn] }

theorem witness_TurnsWithNoStepChangeNoRegister :
    ∀ u ∈ ([.ctl, .tmr, .isr, .rst, .idle, .env { Inputs.quiet with rst := true }] : List Turn),
      (idleAt u).Live ∧ ¬ (idleAt u).AcceptsWord ∧ ¬ (idleAt u).TakesPhase2 ∧ ¬ (idleAt u).TakesTimerClock ∧
        ¬ (idleAt u).TakesTick ∧ ¬ (idleAt u).ReadsOutput := by decide

theorem witness_runs : RunWhere (fun _ => True) (present 0#32 0#24) (stepped (present 0#32 0#24)) :=
  .step (.refl _) trivial rfl

theorem witness_ReadsFaultExactlyWithoutValue :
    (∃ t, step (inReset (.read .dout)) = .next t) ∧ (∃ t, step (answeredAll (.read .dout)) = .next t) ∧
      ∃ t, step (answeredAll .idle) = .next t :=
  ⟨⟨_, rfl⟩, ⟨_, rfl⟩, ⟨_, rfl⟩⟩

theorem witness_OnlyIllFormedParametersStopTheBlock :
    State.reset.params.wellFormed = true ∧
    step { State.reset with params := { Params.ex with timerWidth := 1 } } = .refused .illFormedParameters :=
  ⟨by decide, rfl⟩

theorem witness_InvariantHoldsAtReset : Params.ex.wellFormed = true := by decide

theorem witness_EveryStepKeepsTheInvariant :
    (present 0x00000002#32 0#24).Inv ∧ ∃ t, step (present 0x00000002#32 0#24) = .next t where
  left := by constructor <;> decide
  right := ⟨_, rfl⟩

theorem witness_PendingTickIsTakenEventually :
    (clockAt 0 1 true).params.wellFormed = true ∧ (clockAt 0 1 true).tickPending = true := by decide

end Sys2Proof.Tests
end

section
/-! Progress of the block (00_scope.md R15, 60_exceptions.md R205): every command and every turn answers a next state, no
step changes the parameters (70_reset_and_hazards.md R232), and so a run stops only where `step` refuses the parameters. -/

namespace Sys2Proof.Machine

/-! ### Every meaning answers a next state -/

theorem exec_answers (i : Instr) (s : State) : ∃ t, exec i s = .next t := by
  cases i with
  | nop => exact ⟨_, rfl⟩
  | configure f =>
    simp only [exec, execConfigure]
    split <;> exact ⟨_, rfl⟩
  | start =>
    simp only [exec, execStart]
    split <;> exact ⟨_, rfl⟩
  | stop => exact ⟨_, rfl⟩
  | ctrlSetCur ep prop lp =>
    simp only [exec, execCtrlSetCur]
    split_ifs <;> exact ⟨_, rfl⟩
  | ctrlGetCur ep prop lp =>
    simp only [exec, execCtrlGetCur]
    split_ifs <;> exact ⟨_, rfl⟩
  | ctrlOther ep prop lp => exact ⟨_, rfl⟩

/-- Settles O23: the cases of a command, each of which ends in a next state. -/
theorem everyCommandCompletes : Obligations.EveryCommandCompletes := exec_answers

theorem acceptTurn_answers (s : State) : ∃ t, acceptTurn s = .next t := by
  unfold acceptTurn
  split
  · exact exec_answers _ _
  · exact ⟨_, rfl⟩

theorem ctlTurn_answers (s : State) : ∃ t, ctlTurn s = .next t := by
  unfold ctlTurn
  split
  · exact ⟨_, rfl⟩
  · split
    · exact ⟨_, rfl⟩
    · split
      · exact acceptTurn_answers s
      · exact ⟨_, rfl⟩

/-- Only the control domain runs commands; the turns of the other agents are functions to a next state. -/
theorem takeTurn_answers (t : Turn) (s : State) : ∃ u, takeTurn t s = .next u := by
  cases t with
  | ctl => exact ctlTurn_answers (rstTurn s)
  | tmr | isr | rst | env _ | read _ | idle => exact ⟨_, rfl⟩

theorem step_answers {s : State} (hp : s.params.wellFormed = true) : ∃ t, step s = .next t := by
  obtain ⟨t, ht⟩ := takeTurn_answers s.turn s.beginStep
  exact ⟨t, by simp [step, hp, ht]⟩

theorem step_of_illFormed {s : State} (hp : s.params.wellFormed = false) :
    step s = .refused .illFormedParameters := by
  simp [step, hp]

/-- The one refusal of the block (70 R230; log 16). -/
theorem step_refused_iff (s : State) (r : Refusal) :
    step s = .refused r ↔ s.params.wellFormed = false ∧ r = .illFormedParameters := by
  cases hp : s.params.wellFormed with
  | true =>
    obtain ⟨t, ht⟩ := step_answers hp
    simp [ht]
  | false => simp [step_of_illFormed hp, eq_comm]

/-! ### No step changes the parameters (70 R232) -/

theorem CommandCase.params_eq {s t : State} {i : Instr} (h : CommandCase s t i) : t.params = s.params := by
  cases h <;> subst t <;> rfl

theorem reconfigure_params (s : State) : (reconfigure s).params = s.params := by
  rcases reconfigure_cases s with ⟨_, _, ht⟩ | ⟨_, ht⟩ <;> simp [ht]

theorem timerClock_params (s : State) : (timerClock s).params = s.params := by
  rcases timerClock_cases s with ⟨_, ht⟩ | ⟨_, _, _, ht⟩ | ⟨_, _, _, ht⟩ | ⟨_, _, ht⟩ <;> simp [ht]

theorem tick_params (s : State) : (tick s).params = s.params := by
  rcases tick_cases s with ⟨_, ht⟩ | ⟨_, _, ht⟩ | ⟨_, _, ht⟩ <;> simp [ht]

theorem step_keeps_params {s t : State} (h : step s = .next t) : t.params = s.params := by
  cases step_next_cases h with
  | reset _ ht => rcases ht with rfl | ⟨_, _, rfl⟩ | ⟨_, _, rfl⟩ <;> simp
  | command i _ ht => simpa using (exec_next_cases ht).params_eq
  | illegal _ ht => simp [ht]
  | phase2 _ ht => simp [ht, reconfigure_params]
  | timerClock _ ht => simp [ht, timerClock_params]
  | tick _ ht => simp [ht, tick_params]
  | environment _ _ _ ht => simp [ht]
  | read _ _ _ ht => simp [ht]
  | nothing _ _ ht => simp [ht]

/-! ### Runs -/

/-- Well-formed parameters stay so along a run, so that each of its steps answers a next state. -/
theorem safeFor_of_wellFormed (n : Nat) : ∀ s : State, s.params.wellFormed = true → SafeFor n s := by
  induction n with
  | zero => exact fun s _ => ⟨s, rfl⟩
  | succ n ih =>
    intro s hp
    obtain ⟨t, ht⟩ := step_answers hp
    obtain ⟨u, hu⟩ := ih t (by rwa [step_keeps_params ht])
    exact ⟨u, (run_succ_of_next ht).trans hu⟩

/-- Settles O55: the refusal is that of `step` itself, every turn answers a next state, and a run is safe by induction on
its length. -/
theorem onlyIllFormedParametersStopTheBlock : Obligations.OnlyIllFormedParametersStopTheBlock :=
  ⟨step_refused_iff, fun _ => step_answers, safeFor_of_wellFormed⟩

end Sys2Proof.Machine
end

section
/-! What a step writes, said once (10_state.md section 3): `StepCase` with the cases of each meaning put in, every case as
the whole state it leads to. The rules about the writers of a register, and the invariant, are read off these cases. -/

namespace Sys2Proof.Machine

/-- The next step is phase 1 of a recognised SET with a payload (42_control_protocol.md R165). -/
abbrev State.AcceptsStore (s : State) : Prop :=
  ∃ ep prop, s.Accepts (.ctrlSetCur ep prop true) ∧ s.Addresses ep prop

/-- A word has one meaning: where a command is accepted, the step is phase 1 of SET only if that command says so. -/
theorem State.not_acceptsStore {s : State} {i : Instr} (h : s.Accepts i)
    (hi : ∀ ep prop, i = .ctrlSetCur ep prop true → ¬ s.Addresses ep prop) : ¬ s.AcceptsStore := by
  rintro ⟨ep, prop, h', ha⟩
  exact hi ep prop (Option.some.inj (h.2.symm.trans h'.2)) ha

/-- A command is accepted only outside the SET window, where `cmd_ready` is 1. -/
theorem State.ctlPhase_of_acceptsWord {s : State} (h : s.AcceptsWord) : s.ctlPhase = .idle := by
  obtain ⟨⟨-, hrst⟩, -, hready, -⟩ := h
  simpa [State.cmdReady, hrst] using hready

theorem State.not_takesPhase2_of_acceptsWord {s : State} (h : s.AcceptsWord) : ¬ s.TakesPhase2 := by
  rintro ⟨-, -, hphase⟩
  simp [State.ctlPhase_of_acceptsWord h] at hphase

/-- The control domain has no step in the turn of another agent. -/
theorem State.no_control_of_turn_ne {s : State} (h : s.turn ≠ .ctl) : ¬ s.AcceptsWord ∧ ¬ s.TakesPhase2 :=
  ⟨fun ha => h ha.2.1, fun hp => h hp.2.1⟩

/-- The state a step leads to from `s`, by what it writes. -/
inductive StepEffect (s : State) : State → Prop where
  /-- The reset step, in any turn (70_reset_and_hazards.md R230, R231). -/
  | reset (h : s.TakesReset) (lines : Inputs) (r : PortRead) (hr : r = .noRead ∨ ∃ port, s.turn = .read port) :
      StepEffect s { resetStep s.beginStep with inputs := lines, portRead := r }
  /-- A command that answers and does nothing else. -/
  | answered (b : Byte) (h : s.AcceptsWord) (hstore : ¬ s.AcceptsStore) (hb : b.getLsbD 3 = false) :
      StepEffect s (s.beginStep.acceptCommand.answered b)
  /-- A command word that answers, records an outcome and does nothing else. -/
  | rejected (b : Byte) (o : BlockOutcome) (h : s.AcceptsWord) (hstore : ¬ s.AcceptsStore) (hb : b.getLsbD 3 = false) :
      StepEffect s ((s.beginStep.acceptCommand.answered b).recorded o)
  | configured (f : Freq) (r : Nat) (h : s.Accepts (.configure f)) (hf : s.params.reloadField f.toNat = some r) :
      StepEffect s ((s.beginStep.acceptCommand.writeReload f r
        (if f = s.freq then .agrees else .configuredApart)).answered 0x01#8)
  | started (h : s.Accepts .start) (hrun : s.run = .stopped) :
      StepEffect s (s.beginStep.acceptCommand.startClock.answered 0x01#8)
  | stopped (h : s.Accepts .stop) : StepEffect s (s.beginStep.acceptCommand.stopClock.answered 0x01#8)
  | stored (ep prop : Byte) (h : s.Accepts (.ctrlSetCur ep prop true)) (ha : s.Addresses ep prop) :
      StepEffect s (s.beginStep.acceptCommand.writeFreq s.inputs.din).openWindow
  | gotten (ep prop : Byte) (h : s.Accepts (.ctrlGetCur ep prop true)) (ha : s.Addresses ep prop) :
      StepEffect s ((s.beginStep.acceptCommand.writeOB (encode24 s.freq)).answered 0x31#8)
  | reconfigured (r : Nat) (h : s.TakesPhase2) (hf : s.params.reloadField s.freq.toNat = some r) :
      StepEffect s ((s.beginStep.writeReload s.freq r .agrees).closeWindow.answered 0x01#8)
  | setFailed (h : s.TakesPhase2) (hf : s.params.reloadValid s.freq.toNat = false) :
      StepEffect s ((s.beginStep.recorded (.configurationError s.freq)).markSetFailed.closeWindow.answered 0x01#8)
  | requested (h : s.TakesTimerClock) (hrun : s.run = .running) (hc : s.reload ≤ s.count) :
      StepEffect s s.beginStep.takeTimerPulse.requestTick
  | overrun (h : s.TakesTimerClock) (hrun : s.run = .running) (hc : s.reload ≤ s.count) :
      StepEffect s (s.beginStep.takeTimerPulse.requestTick.recorded .tickOverrun)
  | counted (h : s.TakesTimerClock) (hrun : s.run = .running) (hc : s.count < s.reload) :
      StepEffect s s.beginStep.takeTimerPulse.countUp
  | noFrame (h : s.TakesTick) : StepEffect s (s.beginStep.enterTick.recorded .frameUnavailable)
  | sunk (h : s.TakesTick) : StepEffect s
      (s.beginStep.enterTick.readFrame.writeSink (sampleByte s.inputs.fsLeft s.inputs.fsRight))
  | dropped (h : s.TakesTick) : StepEffect s
      (s.beginStep.enterTick.readFrame.recorded (.sinkBusy (sampleByte s.inputs.fsLeft s.inputs.fsRight)))
  /-- A turn that writes no register: the environment's, a read, or one whose agent has nothing to do. -/
  | quiet (hrst : s.inputs.rst = false) (h : ¬ s.AcceptsWord ∧ ¬ s.TakesPhase2) (lines : Inputs) (r : PortRead)
      (hr : r = .noRead ∨ ∃ port, s.turn = .read port) :
      StepEffect s { s.beginStep with inputs := lines, portRead := r }

theorem StepEffect.of_command {s t : State} {i : Instr} (h : s.Accepts i)
    (hc : CommandCase s.beginStep.acceptCommand t i) : StepEffect s t := by
  cases hc with
  | nop ht => exact ht ▸ .answered _ h.1 (State.not_acceptsStore h (by simp)) (by decide)
  | configured f r hf ht => exact ht ▸ .configured f r h hf
  | configureFailed f _ ht => exact ht ▸ .rejected _ _ h.1 (State.not_acceptsStore h (by simp)) (by decide)
  | started hrun ht => exact ht ▸ .started h hrun
  | startedRunning _ ht => exact ht ▸ .answered _ h.1 (State.not_acceptsStore h (by simp)) (by decide)
  | stopped ht => exact ht ▸ .stopped h
  | setStored ep prop ha ht => exact ht ▸ .stored ep prop h ha
  | setProbed ep prop _ ht => exact ht ▸ .answered _ h.1 (State.not_acceptsStore h (by simp)) (by decide)
  | setRejected ep prop lp ha ht =>
    refine ht ▸ .rejected _ _ h.1 (State.not_acceptsStore h ?_) (by decide)
    rintro ep prop ⟨⟩
    exact ha
  | gotten ep prop ha ht => exact ht ▸ .gotten ep prop h ha
  | getProbed ep prop _ ht => exact ht ▸ .answered _ h.1 (State.not_acceptsStore h (by simp)) (by decide)
  | getRejected ep prop lp _ ht => exact ht ▸ .rejected _ _ h.1 (State.not_acceptsStore h (by simp)) (by decide)
  | otherRejected ep prop lp ht => exact ht ▸ .rejected _ _ h.1 (State.not_acceptsStore h (by simp)) (by decide)

theorem StepEffect.of_illegal {s : State} (h : s.AcceptsIllegal) :
    StepEffect s (illegalCommand s.inputs.cmdWord s.beginStep.acceptCommand) := by
  refine .rejected _ _ h.1 ?_ (by decide)
  rintro ⟨ep, prop, h', -⟩
  exact Option.some_ne_none _ (h'.2.symm.trans h.2)

theorem StepEffect.of_phase2 {s : State} (h : s.TakesPhase2) : StepEffect s (reconfigure s.beginStep) := by
  cases reconfigure_cases s.beginStep with
  | configured r hf ht => exact ht ▸ .reconfigured r h hf
  | failed hf ht => exact ht ▸ .setFailed h hf

theorem StepEffect.of_timerClock {s : State} (h : s.TakesTimerClock) :
    StepEffect s (timerClock s.beginStep.takeTimerPulse) := by
  cases timerClock_cases s.beginStep.takeTimerPulse with
  | stopped _ ht =>
    rw [ht]
    exact .quiet h.1.2 (State.no_control_of_turn_ne (by simp [h.2.1])) _ _ (.inl rfl)
  | requested hrun hc _ ht => exact ht ▸ .requested h hrun hc
  | overrun hrun hc _ ht => exact ht ▸ .overrun h hrun hc
  | counted hrun hc ht => exact ht ▸ .counted h hrun hc

theorem StepEffect.of_tick {s : State} (h : s.TakesTick) : StepEffect s (tick s.beginStep) := by
  cases tick_cases s.beginStep with
  | noFrame _ ht => exact ht ▸ .noFrame h
  | written _ _ ht => exact ht ▸ .sunk h
  | dropped _ _ ht => exact ht ▸ .dropped h

theorem step_next_effect {s t : State} (h : step s = .next t) : StepEffect s t := by
  have hp := step_next_params h
  cases step_next_cases h with
  | reset hrst ht =>
    rcases ht with rfl | ⟨lines, -, rfl⟩ | ⟨port, hport, rfl⟩
    · exact .reset ⟨hp, hrst⟩ _ _ (.inl rfl)
    · exact .reset ⟨hp, hrst⟩ lines _ (.inl rfl)
    · exact .reset ⟨hp, hrst⟩ _ _ (.inr ⟨port, hport⟩)
  | command i hi ht => exact .of_command hi (exec_next_cases ht)
  | illegal hi ht => exact ht ▸ .of_illegal hi
  | phase2 h2 ht => exact ht ▸ .of_phase2 h2
  | timerClock hc ht => exact ht ▸ .of_timerClock hc
  | tick hk ht => exact ht ▸ .of_tick hk
  | environment lines hrst hturn ht =>
    exact ht ▸ .quiet hrst (State.no_control_of_turn_ne (by simp [hturn])) lines _ (.inl rfl)
  | read port hrst hturn ht =>
    exact ht ▸ .quiet hrst (State.no_control_of_turn_ne (by simp [hturn])) _ _ (.inr ⟨port, hturn⟩)
  | nothing hrst hquiet ht => exact ht ▸ .quiet hrst ⟨hquiet.1, hquiet.2.1⟩ _ _ (.inl rfl)

/-- An accepted command is run on the state in which the acceptance is recorded (R75). -/
theorem step_of_accepts {i : Instr} (h : s.Accepts i) : step s = exec i s.beginStep.acceptCommand := by
  simp [step_of_acceptsWord h.1, acceptTurn, h.2]

end Sys2Proof.Machine
end

section
/-! The invariant of the block, operation by operation: what each operation needs to keep it. A step keeps it because each
of its cases is a chain of those operations. -/

namespace Sys2Proof.Machine

/-- A frequency that a configuration writes is a valid one. -/
theorem reloadValid_of_reloadField {p : Params} {f r : Nat} (h : p.reloadField f = some r) :
    p.reloadValid f = true := by
  rw [← Bool.not_eq_false, ← reloadField_eq_none_iff, h]
  exact Option.some_ne_none r

/-- R230: the initial frequency of well-formed parameters can be configured. -/
theorem reloadField_initFreq {p : Params} (hp : p.wellFormed = true) :
    p.reloadField p.initFreq.toNat = some ((p.reloadField p.initFreq.toNat).getD 0) := by
  have hvalid : p.reloadValid p.initFreq.toNat = true := by
    simp only [Params.wellFormed, Bool.and_eq_true] at hp
    exact hp.2
  cases hr : p.reloadField p.initFreq.toNat with
  | none => simp [(reloadField_eq_none_iff _ _).1 hr] at hvalid
  | some r => rfl

namespace State

theorem atReset_inv {p : Params} (hp : p.wellFormed = true) : (State.atReset p).Inv where
  params_wellFormed := hp
  reload_of_fcfg := reloadField_initFreq hp
  freq_agrees _ _ := rfl
  freq_setFailed _ h := nomatch h
  freq_apart _ h := nomatch h
  count_fits := Nat.two_pow_pos _
  stopped_no_tick _ := rfl
  resp_reserved h := nomatch h
  resp_pulse h := nomatch h
  dout_after_resp h := nomatch h
  sink_pulse h := nomatch h

namespace Inv

variable {s : State}

/-- The invariant does not speak of the ports. -/
theorem withPorts (h : s.Inv) (lines : Inputs) (r : PortRead) : Inv { s with inputs := lines, portRead := r } :=
  { h with }

theorem resetStep (h : s.Inv) : (resetStep s).Inv := { atReset_inv h.params_wellFormed with }

/-- The pulses of the step before are over. -/
theorem beginStep (h : s.Inv) : s.beginStep.Inv :=
  { h with
    resp_pulse := fun hv => nomatch hv
    sink_pulse := fun hv => nomatch hv }

theorem acceptCommand (h : s.Inv) : s.acceptCommand.Inv := { h with }

theorem takeTimerPulse (h : s.Inv) : s.takeTimerPulse.Inv := { h with }

theorem recorded (h : s.Inv) (o : BlockOutcome) : (s.recorded o).Inv := { h with }

theorem answered (h : s.Inv) {b : Byte} (hb : b.getLsbD 3 = false) : (s.answered b).Inv :=
  { h with
    resp_reserved := fun _ => hb
    resp_pulse := fun _ => rfl
    dout_after_resp := fun _ => rfl }

theorem startClock (h : s.Inv) : s.startClock.Inv :=
  { h with
    count_fits := Nat.two_pow_pos _
    stopped_no_tick := fun _ => rfl }

theorem stopClock (h : s.Inv) : s.stopClock.Inv := { h with stopped_no_tick := fun _ => rfl }

/-- The counter returns to 0 and a tick is requested: only while Running (40 R121). -/
theorem requestTick (h : s.Inv) (hrun : s.run = .running) : s.requestTick.Inv :=
  { h with
    count_fits := Nat.two_pow_pos _
    stopped_no_tick := fun hstop => nomatch hrun.symm.trans hstop }

theorem countUp (h : s.Inv) : s.countUp.Inv := { h with count_fits := Nat.mod_lt _ (Nat.two_pow_pos _) }

theorem enterTick (h : s.Inv) : s.enterTick.Inv := { h with stopped_no_tick := fun _ => rfl }

theorem readFrame (h : s.Inv) : s.readFrame.Inv :=
  { h with sink_pulse := fun hw => ⟨rfl, (h.sink_pulse hw).2⟩ }

/-- The sink is written only where the frame has been read (41 R142). -/
theorem writeSink (h : s.Inv) (hrd : s.fsRd = true) (b : Byte) : (s.writeSink b).Inv :=
  { h with sink_pulse := fun _ => ⟨hrd, rfl⟩ }

/-- Inside the SET window FREQ may hold any frequency (R36, case (a)). -/
theorem writeFreq_openWindow (h : s.Inv) (f : Freq) : (s.writeFreq f).openWindow.Inv :=
  { h with
    freq_agrees := fun hphase => nomatch hphase
    freq_setFailed := fun hphase => nomatch hphase
    freq_apart := fun hphase => nomatch hphase }

/-- A configuration that succeeds, with the case of R36 it leaves. -/
theorem writeReload (h : s.Inv) {f : Freq} {r : Nat} (hf : s.params.reloadField f.toNat = some r) :
    (s.writeReload f r (if f = s.freq then .agrees else .configuredApart)).Inv :=
  { h with
    reload_of_fcfg := hf
    freq_agrees := fun _ hleft => by
      have heq : f = s.freq := by simpa using hleft
      exact heq.symm
    freq_setFailed := fun _ hleft => by
      by_cases heq : f = s.freq <;> simp [heq] at hleft
    freq_apart := fun _ hleft => by
      have hne : f ≠ s.freq := by simpa using hleft
      exact hne.symm }

/-- A configuration that failed leaves FREQ at a frequency the clock cannot realise (R36, case (b)). -/
theorem markSetFailed (h : s.Inv) (hf : s.params.reloadValid s.freq.toNat = false) : s.markSetFailed.Inv :=
  { h with
    freq_agrees := fun _ hleft => nomatch hleft
    freq_setFailed := fun _ _ => hf
    freq_apart := fun _ hleft => nomatch hleft }

/-- Where the SET window closes, FREQ has to stand to Fcfg as the bookkeeping says. -/
theorem closeWindow (h : s.Inv) (hagrees : s.registry = .agrees → s.freq = s.fcfg)
    (hfailed : s.registry = .setFailed → s.params.reloadValid s.freq.toNat = false)
    (hapart : s.registry = .configuredApart → s.freq ≠ s.fcfg) : s.closeWindow.Inv :=
  { h with
    freq_agrees := fun _ => hagrees
    freq_setFailed := fun _ => hfailed
    freq_apart := fun _ => hapart }

/-- Phase 2 that programs the clock (42 R166). -/
theorem writeReload_closeWindow (h : s.Inv) {r : Nat} (hf : s.params.reloadField s.freq.toNat = some r) :
    (s.writeReload s.freq r .agrees).closeWindow.Inv := by
  have hw : (s.writeReload s.freq r .agrees).Inv := by simpa using h.writeReload hf
  exact hw.closeWindow (fun _ => rfl) (fun hleft => nomatch hleft) (fun hleft => nomatch hleft)

/-- Phase 2 that fails. -/
theorem markSetFailed_closeWindow (h : s.Inv) (hf : s.params.reloadValid s.freq.toNat = false) :
    s.markSetFailed.closeWindow.Inv :=
  (h.markSetFailed hf).closeWindow (fun hleft => nomatch hleft) (fun _ => hf) (fun hleft => nomatch hleft)

/-- R28: OB is written in the step that answers. -/
theorem writeOB_answered (h : s.Inv) (bytes : Byte × Byte × Byte) {b : Byte} (hb : b.getLsbD 3 = false) :
    ((s.writeOB bytes).answered b).Inv :=
  { h with
    resp_reserved := fun _ => hb
    resp_pulse := fun _ => rfl
    dout_after_resp := fun _ => rfl }

end Inv
end State

/-- Settles O57: every case of a step is a chain of operations that keep the invariant. -/
theorem everyStepKeepsTheInvariant : Obligations.EveryStepKeepsTheInvariant := by
  intro s t hinv h
  have hbegin := hinv.beginStep
  have haccept := hbegin.acceptCommand
  cases step_next_effect h with
  | reset _ lines r => exact hbegin.resetStep.withPorts lines r
  | answered b _ _ hb => exact haccept.answered hb
  | rejected b o _ _ hb => exact (haccept.answered hb).recorded o
  | configured f r _ hf => exact (haccept.writeReload hf).answered (by decide)
  | started => exact haccept.startClock.answered (by decide)
  | stopped => exact haccept.stopClock.answered (by decide)
  | stored => exact haccept.writeFreq_openWindow _
  | gotten => exact haccept.writeOB_answered _ (by decide)
  | reconfigured r _ hf => exact (hbegin.writeReload_closeWindow hf).answered (by decide)
  | setFailed _ hf => exact ((hbegin.recorded _).markSetFailed_closeWindow hf).answered (by decide)
  | requested _ hrun => exact hbegin.takeTimerPulse.requestTick hrun
  | overrun _ hrun => exact (hbegin.takeTimerPulse.requestTick hrun).recorded _
  | counted => exact hbegin.takeTimerPulse.countUp
  | noFrame => exact hbegin.enterTick.recorded _
  | sunk => exact hbegin.enterTick.readFrame.writeSink rfl _
  | dropped => exact hbegin.enterTick.readFrame.recorded _
  | quiet _ _ lines r => exact hbegin.withPorts lines r

end Sys2Proof.Machine
end

section
/-! The writers of each register (10_state.md sections 3, 4 and 7), read off the cases of a step. -/

namespace Sys2Proof.Machine

variable {s t : State}

/-! ### FREQ, and the configuration of the clock (R23, R24, R36) -/

/-- Settles O43: FREQ is written in the cases `reset` and `stored`. -/
theorem registryHasTwoWriters : Obligations.RegistryHasTwoWriters := by
  intro s t h
  cases step_next_effect h with
  | reset hr => exact .inr (.inl ⟨hr.2, rfl⟩)
  | stored ep prop hi ha => exact .inr (.inr ⟨ep, prop, hi, ha, rfl, rfl⟩)
  | _ => exact .inl rfl

/-- Settles O44: RELOAD and Fcfg are written in the cases `reset`, `configured` and `reconfigured`. -/
theorem reloadHasThreeWriters : Obligations.ReloadHasThreeWriters := by
  intro s t h
  cases step_next_effect h with
  | reset hr => exact .inr (.inl ⟨hr.2, reloadField_initFreq hr.1, rfl⟩)
  | configured f r hi hf => exact .inr (.inr (.inl ⟨f, hi, hf, rfl⟩))
  | reconfigured r h2 hf => exact .inr (.inr (.inr ⟨h2, hf, rfl⟩))
  | _ => exact .inl ⟨rfl, rfl⟩

/-- The bookkeeping field changes in a phase 2 that fails, in a configuration that succeeds, and under reset. -/
theorem step_registry (h : step s = .next t) :
    t.registry = s.registry ∨ t.registry = .agrees ∨
    (t.registry = .setFailed ∧ s.TakesPhase2 ∧ s.params.reloadValid s.freq.toNat = false) ∨
    (t.registry = .configuredApart ∧
      ∃ f, s.Accepts (.configure f) ∧ s.params.reloadValid f.toNat = true ∧ f ≠ s.freq) := by
  cases step_next_effect h with
  | reset => exact .inr (.inl rfl)
  | configured f r hi hf =>
    by_cases heq : f = s.freq
    · exact .inr (.inl (if_pos heq))
    · exact .inr (.inr (.inr ⟨if_neg heq, f, hi, reloadValid_of_reloadField hf, heq⟩))
  | reconfigured => exact .inr (.inl rfl)
  | setFailed h2 hf => exact .inr (.inr (.inl ⟨rfl, h2, hf⟩))
  | _ => exact .inl rfl

/-- Settles O51: each case of the field has one step that sets it. -/
theorem registryCaseIsSetOnlyByItsStep : Obligations.RegistryCaseIsSetOnlyByItsStep := by
  intro s t h
  obtain hs | hs | ⟨hs, hcase⟩ | ⟨hs, hcase⟩ := step_registry h
  · exact ⟨fun ht => .inl (hs ▸ ht), fun ht => .inl (hs ▸ ht)⟩
  · exact ⟨fun ht => (nomatch hs.symm.trans ht), fun ht => (nomatch hs.symm.trans ht)⟩
  · exact ⟨fun _ => .inr hcase, fun ht => (nomatch hs.symm.trans ht)⟩
  · exact ⟨fun ht => (nomatch hs.symm.trans ht), fun _ => .inr hcase⟩

/-- Case (b) of R36: the clock stays at the valid Fcfg, and FREQ is not valid. -/
theorem freq_ne_fcfg_of_phase2_failed (hinv : s.Inv) (h : step s = .next t) (h2 : s.TakesPhase2)
    (hf : s.params.reloadValid s.freq.toNat = false) : t.freq ≠ t.fcfg := by
  have hne : s.freq ≠ s.fcfg := by
    intro heq
    have hvalid := reloadValid_of_reloadField hinv.reload_of_fcfg
    rw [← heq, hf] at hvalid
    cases hvalid
  obtain rfl : reconfigure s.beginStep = t := Host.Outcome.next.inj ((step_of_takesPhase2 h2).symm.trans h)
  cases reconfigure_cases s.beginStep with
  | configured r hr _ => exact absurd (reloadValid_of_reloadField hr) (by simp [hf])
  | failed _ ht => simpa [ht] using hne

/-- Case (c) of R36: Fcfg takes the operand, and FREQ stays. -/
theorem freq_ne_fcfg_of_configured_apart (h : step s = .next t) {f : Freq} (hi : s.Accepts (.configure f))
    (hf : s.params.reloadValid f.toNat = true) (hne : f ≠ s.freq) : t.freq ≠ t.fcfg := by
  cases exec_next_cases ((step_of_accepts hi).symm.trans h) with
  | configured _ r _ ht => simpa [ht] using hne.symm
  | configureFailed _ hfail _ => simp [hf] at hfail

/-- Settles O50: FREQ and Fcfg both stay but in the cases `reset`, `configured`, `stored` and `reconfigured`; of the rest
only `setFailed` closes the SET window. -/
theorem registryAndClockPartOnlyAsStated : Obligations.RegistryAndClockPartOnlyAsStated := by
  intro s t hinv h
  refine ⟨fun hidle hne => ?_, freq_ne_fcfg_of_phase2_failed hinv h,
    fun _ hi hf hne => freq_ne_fcfg_of_configured_apart h hi hf hne⟩
  cases step_next_effect h with
  | reset => exact absurd rfl hne
  | configured f r hi hf => exact .inr (.inr ⟨f, hi, reloadValid_of_reloadField hf, Ne.symm hne⟩)
  | stored => cases hidle
  | reconfigured => exact absurd rfl hne
  | setFailed h2 hf => exact .inr (.inl ⟨h2, hf⟩)
  | _ => exact .inl ⟨hidle, hne⟩

/-! ### RUN, COUNT, TICK_PENDING and CTL_PHASE (R25, R26, R29, R30) -/

theorem step_run (h : step s = .next t) :
    t.run = s.run ∨ (s.Accepts .start ∧ t.run = .running) ∨ (s.Accepts .stop ∧ t.run = .stopped) ∨
      (s.inputs.rst = true ∧ t.run = .stopped) := by
  cases step_next_effect h with
  | reset hr => exact .inr (.inr (.inr ⟨hr.2, rfl⟩))
  | started hi => exact .inr (.inl ⟨hi, rfl⟩)
  | stopped hi => exact .inr (.inr (.inl ⟨hi, rfl⟩))
  | _ => exact .inl rfl

/-- Settles O45: of the writers of RUN only START makes it Running. -/
theorem onlyStartAndStopMoveTheRunState : Obligations.OnlyStartAndStopMoveTheRunState := by
  intro s t h
  obtain ht | ⟨hi, ht⟩ | ⟨hi, ht⟩ | ⟨hrst, ht⟩ := step_run h
  · rw [ht]
    exact ⟨fun h0 h1 => (nomatch h0.symm.trans h1), fun h0 h1 => (nomatch h0.symm.trans h1)⟩
  · exact ⟨fun _ _ => hi, fun _ h1 => (nomatch ht.symm.trans h1)⟩
  · exact ⟨fun _ h1 => (nomatch ht.symm.trans h1), fun _ _ => .inl hi⟩
  · exact ⟨fun _ h1 => (nomatch ht.symm.trans h1), fun _ _ => .inr hrst⟩

theorem step_count (h : step s = .next t) :
    t.count = s.count ∨
    (s.TakesTimerClock ∧ s.run = .running ∧
      t.count = if s.reload ≤ s.count then 0 else s.params.truncW (s.count + 1)) ∨
    (s.Accepts .start ∧ s.run = .stopped ∧ t.count = 0) ∨
    (s.inputs.rst = true ∧ t.count = 0) := by
  cases step_next_effect h with
  | reset hr => exact .inr (.inr (.inr ⟨hr.2, rfl⟩))
  | started hi hrun => exact .inr (.inr (.inl ⟨hi, hrun, rfl⟩))
  | requested hc hrun hle => exact .inr (.inl ⟨hc, hrun, (if_pos hle).symm⟩)
  | overrun hc hrun hle => exact .inr (.inl ⟨hc, hrun, (if_pos hle).symm⟩)
  | counted hc hrun hlt => exact .inr (.inl ⟨hc, hrun, (if_neg (Nat.not_le.2 hlt)).symm⟩)
  | _ => exact .inl rfl

theorem step_tickPending (h : step s = .next t) :
    t.tickPending = s.tickPending ∨
    (s.TakesTimerClock ∧ s.run = .running ∧ s.reload ≤ s.count ∧ t.tickPending = true) ∨
    (s.TakesTick ∧ t.tickPending = false) ∨
    (s.Accepts .start ∧ s.run = .stopped ∧ t.tickPending = false) ∨
    (s.Accepts .stop ∧ t.tickPending = false) ∨
    (s.inputs.rst = true ∧ t.tickPending = false) := by
  cases step_next_effect h with
  | reset hr => exact .inr (.inr (.inr (.inr (.inr ⟨hr.2, rfl⟩))))
  | started hi hrun => exact .inr (.inr (.inr (.inl ⟨hi, hrun, rfl⟩)))
  | stopped hi => exact .inr (.inr (.inr (.inr (.inl ⟨hi, rfl⟩))))
  | requested hc hrun hle => exact .inr (.inl ⟨hc, hrun, hle, rfl⟩)
  | overrun hc hrun hle => exact .inr (.inl ⟨hc, hrun, hle, rfl⟩)
  | noFrame hk => exact .inr (.inr (.inl ⟨hk, rfl⟩))
  | sunk hk => exact .inr (.inr (.inl ⟨hk, rfl⟩))
  | dropped hk => exact .inr (.inr (.inl ⟨hk, rfl⟩))
  | _ => exact .inl rfl

theorem step_ctlPhase (h : step s = .next t) :
    t.ctlPhase = s.ctlPhase ∨
    (∃ ep prop, s.Accepts (.ctrlSetCur ep prop true) ∧ s.Addresses ep prop ∧ t.ctlPhase = .setReconf) ∨
    (s.TakesPhase2 ∧ t.ctlPhase = .idle) ∨
    (s.inputs.rst = true ∧ t.ctlPhase = .idle) := by
  cases step_next_effect h with
  | reset hr => exact .inr (.inr (.inr ⟨hr.2, rfl⟩))
  | stored ep prop hi ha => exact .inr (.inl ⟨ep, prop, hi, ha, rfl⟩)
  | reconfigured r h2 => exact .inr (.inr (.inl ⟨h2, rfl⟩))
  | setFailed h2 => exact .inr (.inr (.inl ⟨h2, rfl⟩))
  | _ => exact .inl rfl

/-- Settles O46: the writers of each of the three registers. -/
theorem counterTickAndPhaseHaveNamedWriters : Obligations.CounterTickAndPhaseHaveNamedWriters :=
  fun _ _ h => ⟨step_count h, step_tickPending h, step_ctlPhase h⟩

/-! ### DOUT, SINK_DATA and RESP (R27, R28, R31, R32) -/

theorem step_dout (hrst : s.inputs.rst = false) (h : step s = .next t) :
    (t.dout = s.dout ∧ t.doutHasValue = s.doutHasValue) ∨
    (∃ ep prop, s.Accepts (.ctrlGetCur ep prop true) ∧ s.Addresses ep prop ∧
      t.dout = s.freq ∧ t.doutHasValue = true) := by
  cases step_next_effect h with
  | reset hr => simp [hr.2] at hrst
  | gotten ep prop hi ha => exact .inr ⟨ep, prop, hi, ha, joinBytes_encode24 s.freq, rfl⟩
  | _ => exact .inl ⟨rfl, rfl⟩

theorem step_sinkData (hrst : s.inputs.rst = false) (h : step s = .next t) :
    (t.sinkData = s.sinkData ∧ t.sinkDataHasValue = s.sinkDataHasValue ∧ t.sinkWe = false) ∨
    (s.TakesTick ∧ t.sinkWe = true ∧ t.sinkDataHasValue = true ∧
      t.sinkData = sampleByte s.inputs.fsLeft s.inputs.fsRight) := by
  cases step_next_effect h with
  | reset hr => simp [hr.2] at hrst
  | sunk hk => exact .inr ⟨hk, rfl, rfl, rfl⟩
  | _ => exact .inl ⟨rfl, rfl, rfl⟩

/-- Settles O48: DOUT is written in the case `gotten`, SINK_DATA in the case `sunk`. -/
theorem outputRegistersHaveOneWriterEach : Obligations.OutputRegistersHaveOneWriterEach :=
  fun _ _ hrst h => ⟨step_dout hrst h, step_sinkData hrst h⟩

/-- The next step completes a command: phase 2, or an accepted word whose answer does not wait for it (R32). -/
def State.Completes (s : State) : Prop := s.TakesPhase2 ∨ (s.AcceptsWord ∧ ¬ s.AcceptsStore)

theorem State.not_completes_of_turn_ne (h : s.turn ≠ .ctl) : ¬ s.Completes := by
  obtain ⟨hword, h2⟩ := State.no_control_of_turn_ne h
  exact fun hc => hc.elim h2 fun ha => hword ha.1

/-- A step either completes a command, and answers, or it leaves RESP. -/
theorem step_resp (hrst : s.inputs.rst = false) (h : step s = .next t) :
    (s.Completes ∧ t.respValid = true ∧ t.respHasValue = true) ∨
    (¬ s.Completes ∧ t.respValid = false ∧ t.resp = s.resp ∧ t.respHasValue = s.respHasValue) := by
  have hcommand {i : Instr} (hi : s.Accepts i) (hne : ∀ ep prop, i ≠ .ctrlSetCur ep prop true) : s.Completes :=
    .inr ⟨hi.1, State.not_acceptsStore hi fun ep prop heq => absurd heq (hne ep prop)⟩
  have htimer (hc : s.TakesTimerClock) : ¬ s.Completes := State.not_completes_of_turn_ne (by simp [hc.2.1])
  have htick (hk : s.TakesTick) : ¬ s.Completes := State.not_completes_of_turn_ne (by simp [hk.2.1])
  cases step_next_effect h with
  | reset hr => simp [hr.2] at hrst
  | answered _ ha hstore => exact .inl ⟨.inr ⟨ha, hstore⟩, rfl, rfl⟩
  | rejected _ _ ha hstore => exact .inl ⟨.inr ⟨ha, hstore⟩, rfl, rfl⟩
  | configured _ _ hi => exact .inl ⟨hcommand hi (by simp), rfl, rfl⟩
  | started hi => exact .inl ⟨hcommand hi (by simp), rfl, rfl⟩
  | stopped hi => exact .inl ⟨hcommand hi (by simp), rfl, rfl⟩
  | gotten _ _ hi => exact .inl ⟨hcommand hi (by simp), rfl, rfl⟩
  | stored ep prop hi ha =>
    have hwaits : ¬ s.Completes := by
      rintro (h2 | ⟨-, hstore⟩)
      · exact State.not_takesPhase2_of_acceptsWord hi.1 h2
      · exact hstore ⟨ep, prop, hi, ha⟩
    exact .inr ⟨hwaits, rfl, rfl, rfl⟩
  | reconfigured _ h2 => exact .inl ⟨.inl h2, rfl, rfl⟩
  | setFailed h2 => exact .inl ⟨.inl h2, rfl, rfl⟩
  | requested hc => exact .inr ⟨htimer hc, rfl, rfl, rfl⟩
  | overrun hc => exact .inr ⟨htimer hc, rfl, rfl, rfl⟩
  | counted hc => exact .inr ⟨htimer hc, rfl, rfl, rfl⟩
  | noFrame hk => exact .inr ⟨htick hk, rfl, rfl, rfl⟩
  | sunk hk => exact .inr ⟨htick hk, rfl, rfl, rfl⟩
  | dropped hk => exact .inr ⟨htick hk, rfl, rfl, rfl⟩
  | quiet _ hquiet => exact .inr ⟨fun hc => hc.elim hquiet.2 fun ha => hquiet.1 ha.1, rfl, rfl, rfl⟩

/-- Settles O49: a step answers exactly where it completes a command. -/
theorem responsePulsesOncePerCommand : Obligations.ResponsePulsesOncePerCommand := by
  intro s t hrst h
  obtain ⟨hc, hv, hhas⟩ | ⟨hc, hv, hresp, hhas⟩ := step_resp hrst h
  · exact ⟨iff_of_true hv hc, by simp [hv], by simp [hv, hhas]⟩
  · exact ⟨iff_of_false (by simp [hv]) hc, fun _ => hresp, by simp [hv, hhas]⟩

end Sys2Proof.Machine
end

section
/-! Reads of the output ports, turns without a step, and the history (10_state.md sections 3, 4 and 8). -/

namespace Sys2Proof.Machine

variable {s t : State}

/-! ### Turns of the environment and reads -/

theorem readsOutput_iff (s : State) : s.ReadsOutput ↔ ∃ port, s.turn = .read port := by
  constructor
  · rintro (h | h | h) <;> exact ⟨_, h⟩
  · rintro ⟨port, h⟩
    cases port <;> simp [State.ReadsOutput, h]

theorem step_of_env (hlive : s.Live) {lines : Inputs} (hturn : s.turn = .env lines) :
    step s = .next (s.beginStep.setInputs lines) := by
  simp [step, hlive.1, takeTurn, rstTurn, hlive.2, hturn, agentTurn]

theorem step_of_read (hp : s.params.wellFormed = true) {port : OutputPort} (hturn : s.turn = .read port) :
    step s = .next ((rstTurn s.beginStep).readPort port) := by
  simp [step, hp, takeTurn, hturn, agentTurn]

theorem rstTurn_of_live (hlive : s.Live) : rstTurn s.beginStep = s.beginStep := by
  simp [rstTurn, hlive.2]

/-- Under reset no register behind an output port has a value (R230; log 21). -/
theorem rstTurn_portHasValue (s : State) (port : OutputPort) :
    (rstTurn s.beginStep).portHasValue port = false ↔ s.portHasValue port = false ∨ s.inputs.rst = true := by
  cases hrst : s.inputs.rst <;> cases port <;> simp [rstTurn, hrst, State.portHasValue]

/-- Only a read leaves something in the model's own field `portRead` (log 18). -/
theorem portRead_of_turn_ne_read (h : step s = .next t) (hturn : ¬ ∃ port, s.turn = .read port) :
    t.portRead = .noRead := by
  cases step_next_effect h with
  | reset _ _ _ hr => exact hr.resolve_right hturn
  | quiet _ _ _ _ hr => exact hr.resolve_right hturn
  | _ => rfl

/-- Settles O42: a read turn is `readPort` on the state with the pulses over. -/
theorem outputReadsGiveTheValueOrFault : Obligations.OutputReadsGiveTheValueOrFault := by
  intro s hlive hread
  obtain ⟨port, hturn⟩ := (readsOutput_iff s).1 hread
  have hstep := step_of_read hlive.1 hturn
  rw [rstTurn_of_live hlive] at hstep
  refine ⟨_, hstep, rfl, ?_, ?_, ?_⟩
  all_goals
    intro hport
    obtain rfl := Turn.read.inj (hturn.symm.trans hport)
    rfl

/-- Settles O54: in a read turn the port decides, and no other turn reads. -/
theorem readsFaultExactlyWithoutValue : Obligations.ReadsFaultExactlyWithoutValue := by
  intro s t port h
  rw [readsOutput_iff]
  by_cases hread : ∃ read, s.turn = .read read
  · obtain ⟨read, hturn⟩ := hread
    obtain rfl := Host.Outcome.next.inj ((step_of_read (step_next_params h) hturn).symm.trans h)
    rw [readPort_faulted_iff, hturn]
    refine ⟨?_, iff_of_true (readPort_portRead_ne_noRead _ _) ⟨read, rfl⟩⟩
    simp only [Turn.read.injEq]
    exact and_congr_right fun heq => heq ▸ rstTurn_portHasValue s read
  · have hnone := portRead_of_turn_ne_read h hread
    exact ⟨iff_of_false (by simp [hnone]) fun hf => hread ⟨port, hf.1⟩, iff_of_false (by simp [hnone]) hread⟩

/-- Settles O47: an environment turn sets the lines; any other such turn is the beginning of a step and nothing more. -/
theorem turnsWithNoStepChangeNoRegister : Obligations.TurnsWithNoStepChangeNoRegister := by
  intro s hlive hword h2 hclock htick hread
  by_cases henv : ∃ lines, s.turn = .env lines
  · obtain ⟨lines, hturn⟩ := henv
    refine ⟨_, step_of_env hlive hturn, rfl, ?_, fun hne => absurd hturn (hne lines)⟩
    intro lines' hturn'
    exact Turn.env.inj (hturn.symm.trans hturn')
  · obtain ⟨t, ht⟩ := step_answers hlive.1
    have hbegin : t = s.beginStep := by
      cases step_next_cases ht with
      | reset hrst => simp [hlive.2] at hrst
      | command _ h => exact absurd h.1 hword
      | illegal h => exact absurd h.1 hword
      | phase2 h => exact absurd h h2
      | timerClock h => exact absurd h hclock
      | tick h => exact absurd h htick
      | environment lines _ h => exact absurd ⟨lines, h⟩ henv
      | read port _ h => exact absurd ((readsOutput_iff s).2 ⟨port, h⟩) hread
      | nothing _ _ ht => exact ht
    subst hbegin
    exact ⟨_, ht, rfl, fun lines h => absurd ⟨lines, h⟩ henv, fun _ => rfl⟩

/-! ### The history of a run (R37) -/

/-- A step puts its events in front of the history, newest first. -/
theorem step_history (h : step s = .next t) : s.history <:+ t.history := by
  cases step_next_effect h <;> simp [List.suffix_cons_iff]

/-- Settles O53, by induction on the run. -/
theorem historyOnlyGrows : Obligations.HistoryOnlyGrows := by
  intro s t hrun
  have hsuffix : s.history <:+ t.history := by
    induction hrun with
    | refl => exact List.suffix_rfl
    | step _ _ hstep ih => exact ih.trans (step_history hstep)
  obtain ⟨new, hnew⟩ := hsuffix
  exact ⟨new, hnew.symm⟩

end Sys2Proof.Machine
end

section
/-! The byte order of the payload buffers, as numbers (20_memory.md R52). -/

namespace Sys2Proof.Machine

/-- The three bytes do not overlap, so that `or` joins them as a sum. -/
theorem decode24_toNat (b0 b1 b2 : Byte) :
    (decode24 b0 b1 b2).toNat = b0.toNat + b1.toNat * 256 + b2.toNat * 65536 := by
  have hwiden (b : Byte) : (b.setWidth 24).toNat = b.toNat := BitVec.toNat_setWidth_of_le (by decide)
  have hmid : b1.toNat <<< 8 % 2 ^ 24 = b1.toNat <<< 8 := Nat.mod_eq_of_lt (by omega)
  have hhigh : b2.toNat <<< 16 % 2 ^ 24 = b2.toNat <<< 16 := Nat.mod_eq_of_lt (by omega)
  have hlow : b0.toNat ||| b1.toNat <<< 8 = b1.toNat <<< 8 + b0.toNat :=
    (Nat.or_comm _ _).trans (Nat.shiftLeft_add_eq_or_of_lt b0.isLt _).symm
  have hall : (b1.toNat <<< 8 + b0.toNat) ||| b2.toNat <<< 16 = b2.toNat <<< 16 + (b1.toNat <<< 8 + b0.toNat) :=
    (Nat.or_comm _ _).trans (Nat.shiftLeft_add_eq_or_of_lt (by omega) _).symm
  simp only [decode24, BitVec.toNat_or, BitVec.toNat_shiftLeft, hwiden, hmid, hhigh, hlow, hall]
  omega

theorem encode24_eq_payloadBytes (f : Freq) : encode24 f = (payloadByte f 0, payloadByte f 1, payloadByte f 2) := rfl

theorem payloadByte_toNat (f : Freq) (i : Fin 3) : (payloadByte f i).toNat = f.toNat / 2 ^ (8 * i.val) % 256 := by
  simp [payloadByte, Nat.shiftRight_eq_div_pow]

/-- Settles O39: the bytes of `Encode24` are bytes 0, 1 and 2 of the value, and nothing stands above the third. -/
theorem payloadIsLittleEndian : Obligations.PayloadIsLittleEndian := by
  refine ⟨decode24_toNat, fun f => ?_⟩
  have hhigh : f.toNat / 65536 < 256 := by omega
  simp only [encode24_eq_payloadBytes, payloadByte_toNat]
  exact ⟨by simp, by simp, by simpa using Nat.mod_eq_of_lt hhigh, decode24_payloadByte f⟩

end Sys2Proof.Machine
end

section
/-! Any number of ticks in one SET window (20_memory.md R61; 70_reset_and_hazards.md R234): with RELOAD = 1 every second
timer pulse requests a tick, and nothing makes the control domain take phase 2 before a given number of periods. -/

namespace Sys2Proof.Machine

/-! ### A running clock with RELOAD = 1 inside the SET window -/

/-- The environment raises `tmr_clk_en`. -/
def timerPulse : Inputs := { Inputs.quiet with tmrClkEn := true }

/-- The turns of k periods of a clock whose RELOAD is 1, each with its tick. -/
def periodTurns : Nat → List Turn
  | 0 => []
  | k + 1 => .env timerPulse :: .tmr :: .env timerPulse :: .tmr :: .isr :: periodTurns k

/-- Inside the SET window the clock runs with RELOAD = 1, and `turns` are the turns to come. -/
structure FastWindow (count : Nat) (pending : Bool) (turns : List Turn) (s : State) : Prop where
  live : s.Live
  window : s.ctlPhase = .setReconf
  running : s.run = .running
  reload_eq : s.reload = 1
  count_eq : s.count = count
  pending_eq : s.tickPending = pending
  schedule_eq : s.schedule = turns

namespace FastWindow

variable {count : Nat} {pending : Bool} {turn : Turn} {turns : List Turn} {s : State}

theorem turn_eq (h : FastWindow count pending (turn :: turns) s) : s.turn = turn := by
  simp [State.turn, h.schedule_eq]

theorem beginStep (h : FastWindow count pending (turn :: turns) s) : FastWindow count pending turns s.beginStep :=
  { h with schedule_eq := by simp [h.schedule_eq] }

theorem setInputs_timerPulse (h : FastWindow count pending turns s) :
    FastWindow count pending turns (s.setInputs timerPulse) :=
  { h with live := ⟨h.live.1, rfl⟩ }

theorem takeTimerPulse (h : FastWindow count pending turns s) : FastWindow count pending turns s.takeTimerPulse :=
  { h with }

/-- The first pulse of a period is counted. -/
theorem timerClock_counts (h : FastWindow 0 pending turns s) : FastWindow 1 pending turns (timerClock s) := by
  have hclock : timerClock s = s.countUp := by simp [timerClock, h.running, h.reload_eq, h.count_eq]
  have hwidth : s.params.timerWidth ≠ 0 := by
    have hp := h.live.1
    simp only [Params.wellFormed, Bool.and_eq_true, decide_eq_true_eq] at hp
    omega
  have hcount : s.countUp.count = 1 := by
    simp [h.count_eq, Params.truncW, Nat.mod_eq_of_lt (Nat.one_lt_two_pow hwidth)]
  rw [hclock]
  exact { h with count_eq := hcount }

/-- The second pulse of a period requests the tick. -/
theorem timerClock_requests (h : FastWindow 1 false turns s) : FastWindow 0 true turns (timerClock s) := by
  have hclock : timerClock s = s.requestTick := by
    simp [timerClock, h.running, h.reload_eq, h.count_eq, h.pending_eq]
  rw [hclock]
  exact { h with
    count_eq := rfl
    pending_eq := rfl }

/-- The tick takes the request, whatever the frame source and the sink say, and leaves the window open. -/
theorem tick (h : FastWindow count pending turns s) : FastWindow count false turns (tick s) := by
  rcases tick_cases s with ⟨_, ht⟩ | ⟨_, _, ht⟩ | ⟨_, _, ht⟩ <;> rw [ht]
  all_goals exact { h with pending_eq := rfl }

end FastWindow

/-! ### The ticks of its steps -/

variable {count : Nat} {pending : Bool} {turns : List Turn} {s : State}

theorem ticksInWindow_succ {t : State} (n : Nat) (hwindow : s.ctlPhase = .setReconf) (h : step s = .next t) :
    ticksInWindow (n + 1) s = (if s.TakesTick then 1 else 0) + ticksInWindow n t := by
  simp [ticksInWindow, hwindow, h]

/-- The state in which the timer has just taken a pulse that the environment raised. -/
def State.pulsed (s : State) : State := (s.beginStep.setInputs timerPulse).beginStep.takeTimerPulse

theorem FastWindow.pulsed (h : FastWindow count pending (.env timerPulse :: .tmr :: turns) s) :
    FastWindow count pending turns s.pulsed :=
  h.beginStep.setInputs_timerPulse.beginStep.takeTimerPulse

/-- The two turns of a timer pulse are no ticks. -/
theorem ticksInWindow_pulse (h : FastWindow count pending (.env timerPulse :: .tmr :: turns) s) (n : Nat) :
    ticksInWindow (n + 2) s = ticksInWindow n (timerClock s.pulsed) := by
  have hraised := h.beginStep.setInputs_timerPulse
  have htimer : (s.beginStep.setInputs timerPulse).TakesTimerClock := ⟨hraised.live, hraised.turn_eq, rfl⟩
  rw [ticksInWindow_succ _ h.window (step_of_env h.live h.turn_eq),
    ticksInWindow_succ _ hraised.window (step_of_takesTimerClock htimer)]
  simp [State.TakesTick, h.turn_eq, hraised.turn_eq, State.pulsed]

theorem ticksInWindow_tick (h : FastWindow count true (.isr :: turns) s) (n : Nat) :
    ticksInWindow (n + 1) s = ticksInWindow n (tick s.beginStep) + 1 := by
  have htick : s.TakesTick := ⟨h.live, h.turn_eq, h.pending_eq⟩
  rw [ticksInWindow_succ _ h.window (step_of_takesTick htick), if_pos htick, Nat.add_comm]

/-- The five steps of each period take one tick. -/
theorem ticksInWindow_periods (k : Nat) :
    ∀ s : State, FastWindow 0 false (periodTurns k) s → ticksInWindow (5 * k) s = k := by
  induction k with
  | zero => exact fun _ _ => rfl
  | succ k ih =>
    intro s h
    have hcounted := h.pulsed.timerClock_counts
    have hrequested := hcounted.pulsed.timerClock_requests
    calc ticksInWindow (5 * k + 5) s
      _ = ticksInWindow (5 * k + 3) (timerClock s.pulsed) := ticksInWindow_pulse h _
      _ = ticksInWindow (5 * k + 1) (timerClock (timerClock s.pulsed).pulsed) := ticksInWindow_pulse hcounted _
      _ = ticksInWindow (5 * k) (tick (timerClock (timerClock s.pulsed).pulsed).beginStep) + 1 :=
        ticksInWindow_tick hrequested _
      _ = k + 1 := congrArg (· + 1) (ih _ hrequested.beginStep.tick)

/-! ### Such a window in a state that meets the invariant -/

/-- The EX machine with its clock running at 1 MHz, where RELOAD is 1, and a SET window open, before k periods. -/
def windowOfPeriods (k : Nat) : State :=
  { ((State.reset.startClock.writeReload 1000000#24 1 .configuredApart).writeFreq 48000#24).openWindow with
    schedule := periodTurns k }

theorem windowOfPeriods_inv (k : Nat) : (windowOfPeriods k).Inv := by
  have hreset : State.reset.Inv := State.atReset_inv (by decide)
  have hvalid : State.reset.startClock.params.reloadField (1000000#24).toNat = some 1 := by decide
  exact { (hreset.startClock.writeReload hvalid).writeFreq_openWindow 48000#24 with }

theorem fastWindow_windowOfPeriods (k : Nat) : FastWindow 0 false (periodTurns k) (windowOfPeriods k) where
  live := ⟨(windowOfPeriods_inv k).params_wellFormed, rfl⟩
  window := rfl
  running := rfl
  reload_eq := rfl
  count_eq := rfl
  pending_eq := rfl
  schedule_eq := rfl

theorem ticksInWindow_windowOfPeriods (k : Nat) : ticksInWindow (5 * k) (windowOfPeriods k) = k :=
  ticksInWindow_periods k _ (fastWindow_windowOfPeriods k)

/-- Settles O59: k periods fit into the window of `windowOfPeriods k`, and two of them break `WindowShort`. -/
theorem windowAdmitsAnyNumberOfTicks : Obligations.WindowAdmitsAnyNumberOfTicks := by
  refine ⟨fun k => ⟨windowOfPeriods k, windowOfPeriods_inv k, rfl, 5 * k, ticksInWindow_windowOfPeriods k⟩,
    windowOfPeriods 2, windowOfPeriods_inv 2, fun hshort => ?_⟩
  have hle := hshort _ (.refl _) (5 * 2)
  rw [ticksInWindow_windowOfPeriods] at hle
  omega

end Sys2Proof.Machine
end

section
/-! The decoder and the encoder as inverses, and the reserved fields (30_encoding.md R70, R71, R75, R77). -/

namespace Sys2Proof

/-! ### The fields of an encoded word (R70, R71) -/

theorem opcode_toNat (w : Word) : (w.extractLsb 3 0).toNat = w.toNat % 16 := by simp

theorem opcode_formatF (f : Freq) (op : BitVec 4) : (formatF f op).toNat % 16 = op.toNat := by
  rw [toNat_formatF]
  omega

theorem opcode_formatC (ep prop : Byte) (lp : Bool) (op : BitVec 4) :
    (formatC ep prop lp op).toNat % 16 = op.toNat := by
  rw [toNat_formatC]
  omega

theorem freq_formatF (f : Freq) (op : BitVec 4) : (formatF f op).extractLsb 31 8 = f := by
  apply BitVec.eq_of_toNat_eq
  rw [toNat_field _ 31 8 24 rfl, toNat_formatF]
  omega

section
variable (ep prop : Byte) (lp : Bool) (op : BitVec 4)

theorem ep_formatC : (formatC ep prop lp op).extractLsb 23 16 = ep := by
  apply BitVec.eq_of_toNat_eq
  have hlp := lp.toNat_lt
  rw [toNat_field _ 23 16 8 rfl, toNat_formatC]
  omega

theorem prop_formatC : (formatC ep prop lp op).extractLsb 15 8 = prop := by
  apply BitVec.eq_of_toNat_eq
  have hlp := lp.toNat_lt
  rw [toNat_field _ 15 8 8 rfl, toNat_formatC]
  omega

theorem lp_formatC : (formatC ep prop lp op)[4] = lp := by
  apply Function.LeftInverse.injective Bool.ofNat_toNat
  have hlp := lp.toNat_lt
  rw [← BitVec.getLsbD_eq_getElem, toNat_bit, toNat_formatC]
  omega

end

/-! ### The reserved fields as numbers (R77) -/

theorem field_eq_zero_iff (w : Word) (hi lo n : Nat) (hn : hi - lo + 1 = n) :
    w.extractLsb hi lo = 0 ↔ w.toNat / 2 ^ lo % 2 ^ n = 0 := by
  rw [← toNat_field w hi lo n hn, ← BitVec.toNat_inj]
  simp

theorem reservedS_iff (w : Word) : w.extractLsb 31 4 = 0 ↔ w.toNat / 16 = 0 := by
  rw [field_eq_zero_iff w 31 4 28 rfl]
  omega

theorem reservedF_iff (w : Word) : w.extractLsb 7 4 = 0 ↔ w.toNat / 16 % 16 = 0 :=
  field_eq_zero_iff w 7 4 4 rfl

theorem reservedC_iff (w : Word) :
    w.extractLsb 31 24 = 0 ∧ w.extractLsb 7 5 = 0 ↔ w.toNat / 16777216 = 0 ∧ w.toNat / 32 % 8 = 0 := by
  rw [field_eq_zero_iff w 31 24 8 rfl, field_eq_zero_iff w 7 5 3 rfl]
  omega

theorem reservedF_formatF (f : Freq) (op : BitVec 4) : (formatF f op).extractLsb 7 4 = 0 := by
  rw [reservedF_iff, toNat_formatF]
  omega

theorem reservedC_formatC (ep prop : Byte) (lp : Bool) (op : BitVec 4) :
    (formatC ep prop lp op).extractLsb 31 24 = 0 ∧ (formatC ep prop lp op).extractLsb 7 5 = 0 := by
  have hlp := lp.toNat_lt
  rw [reservedC_iff, toNat_formatC]
  omega

/-! ### Decoding the encoded word (R75) -/

/-- Settles O1: each field of the format is read back, and the reserved ones are zero. -/
theorem decodeOfEncodeIsTheCommand : Obligations.DecodeOfEncodeIsTheCommand := by
  intro i
  cases i with
  | nop | start | stop => rfl
  | configure f => simp [encode, decode, opcode_formatF, reservedF_formatF, freq_formatF]
  | ctrlSetCur ep prop lp | ctrlGetCur ep prop lp | ctrlOther ep prop lp =>
    simp [encode, decode, opcode_formatC, reservedC_formatC, ep_formatC, prop_formatC, lp_formatC]

/-! ### A legal word is put together from its fields (R70) -/

section
variable {w : Word} {op : BitVec 4} (hop : (w.extractLsb 3 0).toNat = op.toNat)
include hop

theorem formatS_of_fields (hres : w.extractLsb 31 4 = 0) : formatS op = w := by
  apply BitVec.eq_of_toNat_eq
  rw [opcode_toNat] at hop
  rw [reservedS_iff] at hres
  rw [toNat_formatS]
  omega

theorem formatF_of_fields (hres : w.extractLsb 7 4 = 0) : formatF (w.extractLsb 31 8) op = w := by
  apply BitVec.eq_of_toNat_eq
  rw [opcode_toNat] at hop
  rw [reservedF_iff] at hres
  rw [toNat_formatF, toNat_field w 31 8 24 rfl]
  omega

theorem formatC_of_fields (hres : w.extractLsb 31 24 = 0 ∧ w.extractLsb 7 5 = 0) :
    formatC (w.extractLsb 23 16) (w.extractLsb 15 8) (w.getLsbD 4) op = w := by
  apply BitVec.eq_of_toNat_eq
  rw [opcode_toNat] at hop
  rw [reservedC_iff] at hres
  rw [toNat_formatC, toNat_field w 23 16 8 rfl, toNat_field w 15 8 8 rfl, toNat_bit]
  omega

end

/-- Settles O2: in each arm of the decoder the opcode and the empty reserved field determine the rest of the word. -/
theorem decodedWordIsTheEncodedOne : Obligations.DecodedWordIsTheEncodedOne := by
  intro w i h
  unfold decode at h
  split at h
  case h_8 => cases h
  all_goals obtain ⟨hres, ⟨⟩⟩ := Option.ite_none_right_eq_some.1 h
  case h_1 | h_3 | h_4 => exact formatS_of_fields ‹_› hres
  case h_2 => exact formatF_of_fields ‹_› hres
  case h_5 | h_6 | h_7 => exact formatC_of_fields ‹_› hres

/-- The word of a command is its one spelling (R70, R77). -/
theorem decode_eq_some_iff (w : Word) (i : Instr) : decode w = some i ↔ w = encode i := by
  constructor
  · exact fun h => (decodedWordIsTheEncodedOne w i h).symm
  · rintro rfl
    exact decodeOfEncodeIsTheCommand i

/-- Settles O3: each arm of the decoder refuses a word by the reserved field of its format, read as a number. -/
theorem reservedEncodingsAreIllegal : Obligations.ReservedEncodingsAreIllegal := by
  refine fun w => ⟨?_, decode_eq_some_iff w .nop⟩
  unfold decode
  split
  case h_8 =>
    simp only [opcode_toNat, imp_false, true_iff] at *
    omega
  all_goals
    rename_i hop
    rw [opcode_toNat] at hop
    simp only [ite_eq_right_iff, reduceCtorEq, imp_false, reservedS_iff, reservedF_iff, reservedC_iff]
    omega

/-- Settles O4: the tables' words, decoded. -/
theorem writtenOutWordsDecode : Obligations.WrittenOutWordsDecode := by
  unfold Obligations.WrittenOutWordsDecode
  decide

end Sys2Proof
end

section
/-! The assembler (30_encoding.md R79, R80): a pseudo-command is its expansion, and a line that stands for itself presents
the word of its command. -/

namespace Sys2Proof.Machine.AsmLine

/-! ### Expansion (R80) -/

theorem expand_expand (line : AsmLine) : line.expand.expand = line.expand := by
  cases line <;> rfl

theorem command_expand (line : AsmLine) : line.expand.command = line.command := by
  cases line <;> rfl

/-- The property 0x01 that an expansion puts in is in range. -/
theorem wellFormed_expand (line : AsmLine) : line.expand.wellFormed = line.wellFormed := by
  cases line <;> simp [expand, wellFormed]

theorem assemble_expand (line : AsmLine) : line.expand.assemble = line.assemble := by
  rw [assemble, wellFormed_expand, expand_expand, assemble]

/-- Settles O6: each pair of lines is a pseudo-command and its expansion. -/
theorem pseudoCommandsExpand : Obligations.PseudoCommandsExpand :=
  ⟨(assemble_expand .connect).symm, (assemble_expand .disconnect).symm, (assemble_expand .configChanged).symm,
    fun ep f => ⟨(assemble_expand (.setFreq ep f)).symm, (assemble_expand (.getFreq ep)).symm,
      (assemble_expand (.probeSet ep)).symm, (assemble_expand (.probeGet ep)).symm⟩⟩

/-! ### What a line presents (R79) -/

theorem payload_eq (f : Nat) : payload f = BitVec.ofNat 24 f := joinBytes_encode24 _

/-- The low byte of R79's table holds bits 7:0 of format C. -/
theorem wordC_eq_formatC (ep prop : Nat) (lp : Bool) (op : BitVec 4) :
    wordC ep prop (0#3 ++ BitVec.ofBool lp ++ op) = formatC (BitVec.ofNat 8 ep) (BitVec.ofNat 8 prop) lp op := by
  rw [wordC, BitVec.append_assoc', BitVec.append_assoc']
  rfl

theorem append_eq_formatF (f : Freq) (op : BitVec 4) : f ++ (0#4 ++ op) = formatF f op := by
  rw [BitVec.append_assoc']
  rfl

theorem encodeLine_expand (line : AsmLine) : ∃ p, line.expand.encodeLine = some p := by
  cases line <;> exact ⟨_, rfl⟩

/-- The encoding column of R79 holds the words of R70. -/
theorem cmdWord_of_encodeLine {line : AsmLine} {p : Presented} {i : Instr} (hp : line.encodeLine = some p)
    (hi : line.command = some i) : p.cmdWord = encode i := by
  cases line <;> cases hp <;> cases hi
  case nop | start | stop => rfl
  case configure f => exact append_eq_formatF (BitVec.ofNat 24 f) 0x1#4
  case ctrlSetCur ep prop f => exact wordC_eq_formatC ep prop true 0x4#4
  case ctrlSetCurP ep prop => exact wordC_eq_formatC ep prop false 0x4#4
  case ctrlGetCur ep prop => exact wordC_eq_formatC ep prop true 0x5#4
  case ctrlGetCurP ep prop => exact wordC_eq_formatC ep prop false 0x5#4
  case ctrlOther ep prop => exact wordC_eq_formatC ep prop true 0x6#4
  case ctrlOtherP ep prop => exact wordC_eq_formatC ep prop false 0x6#4

/-- Settles O5: what the expansion of the line presents is the word of the line's command, which decodes to it. -/
theorem assembledLineDecodesToItsCommand : Obligations.AssembledLineDecodesToItsCommand := by
  intro line i hwf hi
  obtain ⟨p, hp⟩ := encodeLine_expand line
  refine ⟨p, by simp [assemble, hwf, hp], ?_, fun ep prop f hset => ?_⟩
  · exact (decode_eq_some_iff _ _).2 (cmdWord_of_encodeLine hp ((command_expand line).trans hi))
  · rw [hset] at hp
    cases hp
    exact congrArg some (payload_eq f)

end Sys2Proof.Machine.AsmLine
end

section
/-! The accepted illegal word (30_encoding.md R78). -/

namespace Sys2Proof.Machine

theorem step_of_acceptsIllegal {s : State} (h : s.AcceptsIllegal) :
    step s = .next ((s.beginStep.acceptCommand.answered 0x04#8).recorded (.illegalCommand s.inputs.cmdWord)) := by
  simp [step_of_acceptsWord h.1, acceptTurn, h.2]

/-- Settles O26: the step answers and records on top of the acceptance, and none of the three writes a register but RESP. -/
theorem illegalWordOnlyAnswers : Obligations.IllegalWordOnlyAnswers := by
  refine ⟨fun s h => ⟨_, step_of_acceptsIllegal h, ?_⟩, by decide, by decide, by decide⟩
  have hdout : s.beginStep.acceptCommand.doutValue = s.doutValue := rfl
  simp [hdout]

end Sys2Proof.Machine
end

section
/-! The reload function (40_sample_clock.md R100 to R102), read through the quotient `K div F`. -/

namespace Sys2Proof.Machine

/-! ### The reload value and its validity -/

theorem reload_of_pos (p : Params) {f : Nat} (hf : 1 ≤ f) :
    p.reload f = some (((p.clockRatio / f : Nat) : Int) - 1) :=
  if_neg (Nat.pos_iff_ne_zero.1 hf)

/-- Settles O7: the two clauses of the definition, and a division by a product taken in two. -/
theorem reloadIsTheQuotientLessOne : Obligations.ReloadIsTheQuotientLessOne :=
  fun p => ⟨rfl, fun _ hf => ⟨reload_of_pos p hf, Nat.div_div_eq_div_mul _ _ _⟩⟩

theorem timerMax_cast (p : Params) : (p.timerMax : Int) = ((2 ^ p.timerWidth : Nat) : Int) - 1 :=
  Nat.cast_pred (Nat.two_pow_pos _)

theorem reloadValid_zero (p : Params) : p.reloadValid 0 = false := rfl

theorem reloadValid_iff_reload (p : Params) (f : Nat) :
    p.reloadValid f = true ↔ ∃ r : Int, p.reload f = some r ∧ 1 ≤ r ∧ r ≤ p.timerMax := by
  cases h : p.reload f <;> simp [Params.reloadValid, h]

theorem pos_of_reloadValid {p : Params} {f : Nat} (h : p.reloadValid f = true) : 1 ≤ f := by
  rw [Nat.one_le_iff_ne_zero]
  rintro rfl
  cases h

theorem reloadValid_iff_quotient (p : Params) (f : Nat) :
    p.reloadValid f = true ↔ 1 ≤ f ∧ 2 ≤ p.clockRatio / f ∧ p.clockRatio / f ≤ 2 ^ p.timerWidth := by
  rw [← and_iff_right_of_imp pos_of_reloadValid, and_congr_right_iff]
  intro hf
  simp only [reloadValid_iff_reload, reload_of_pos p hf, Option.some.injEq, exists_eq_left', timerMax_cast]
  omega

/-- Settles O8: the range of the reload value, moved up by one, is that of the quotient. -/
theorem reloadValidBounds : Obligations.ReloadValidBounds := by
  refine fun p f => ⟨?_, reloadValid_iff_quotient p f, reloadValid_zero p⟩
  rw [← and_iff_right_of_imp pos_of_reloadValid, reloadValid_iff_reload, timerMax_cast]

/-! ### The interval of valid frequencies (R102) -/

/-- Both bounds on the quotient are bounds on `K` by a multiple of F, and so bounds on F by a quotient of `K`. -/
theorem reloadValid_iff_interval (p : Params) (f : Nat) :
    p.reloadValid f = true ↔ p.fMin ≤ f ∧ f ≤ p.fMax := by
  have hmin : p.fMin ≤ f ↔ p.clockRatio < f * (2 ^ p.timerWidth + 1) := Nat.div_lt_iff_lt_mul (Nat.succ_pos _)
  have hmax : f ≤ p.fMax ↔ f * 2 ≤ p.clockRatio := Nat.le_div_iff_mul_le Nat.two_pos
  rw [reloadValid_iff_quotient, hmin, hmax]
  cases f with
  | zero => simp
  | succ f =>
    have hpos : 0 < f + 1 := Nat.succ_pos f
    have hupper : p.clockRatio / (f + 1) ≤ 2 ^ p.timerWidth ↔ p.clockRatio < (2 ^ p.timerWidth + 1) * (f + 1) :=
      Nat.lt_succ_iff.symm.trans (Nat.div_lt_iff_lt_mul hpos)
    rw [Nat.le_div_iff_mul_le hpos, hupper, Nat.mul_comm 2, Nat.mul_comm (2 ^ p.timerWidth + 1)]
    exact ⟨fun ⟨_, h2, hN⟩ => ⟨hN, h2⟩, fun ⟨hN, h2⟩ => ⟨hpos, h2, hN⟩⟩

/-- Settles O9: the interval, whose ends EX puts at 31 and 1000000. -/
theorem validFrequenciesFormOneInterval : Obligations.ValidFrequenciesFormOneInterval := by
  refine ⟨reloadValid_iff_interval, fun f => ?_⟩
  have hmin : Params.ex.fMin = 31 := by decide
  have hmax : Params.ex.fMax = 1000000 := by decide
  rw [reloadValid_iff_interval, hmin, hmax]

end Sys2Proof.Machine
end

section
/-! The commands of the sample clock (40_sample_clock.md R105, R106, R110, R112, R114). -/

namespace Sys2Proof.Machine

/-- Settles O10: the word of R70, the assembled line of R80, and a response put on any state. -/
theorem nopOnlyAnswers : Obligations.NopOnlyAnswers :=
  ⟨rfl, rfl, fun s => congrArg Host.Outcome.next s.respondHandled_eq⟩

/-! ### CONFIGURE (R105) -/

theorem exec_configure_of_some {s : State} {f : Freq} {r : Nat} (hf : s.params.reloadField f.toNat = some r) :
    exec (.configure f) s =
      .next ((s.writeReload f r (if f = s.freq then .agrees else .configuredApart)).answered 0x01#8) := by
  simp [exec, execConfigure, hf]

theorem exec_configure_of_invalid {s : State} {f : Freq} (hf : s.params.reloadValid f.toNat = false) :
    exec (.configure f) s = .next ((s.answered 0x03#8).recorded (.configurationError f)) := by
  rw [← reloadField_eq_none_iff] at hf
  simp [exec, execConfigure, hf, State.respond_eq_answered, State.raise_eq_recorded, packResp_configError]

/-- A valid frequency has a value to write. -/
theorem reloadField_of_reloadValid {p : Params} {f : Nat} (h : p.reloadValid f = true) :
    ∃ r, p.reloadField f = some r := by
  rw [← Option.ne_none_iff_exists', ne_eq, reloadField_eq_none_iff, h]
  decide

/-- Settles O11: the valid arm of CONFIGURE, with the value it writes. -/
theorem configureProgramsTheClock : Obligations.ConfigureProgramsTheClock := by
  intro s f hvalid
  obtain ⟨r, hr⟩ := reloadField_of_reloadValid hvalid
  obtain ⟨-, hquotient, -, -⟩ := (reloadField_eq_some_iff _ _ _).1 hr
  refine ⟨_, exec_configure_of_some hr, hquotient.symm, ?_, ?_, rfl⟩
  all_goals by_cases hfreq : f = s.freq <;> simp [hfreq]

/-- Settles O12: the other arm of CONFIGURE. -/
theorem configureRejectsInvalidFrequency : Obligations.ConfigureRejectsInvalidFrequency :=
  fun _ _ => exec_configure_of_invalid

/-! ### START and STOP (R110, R112) -/

/-- Settles O14: the two arms of START. -/
theorem startBeginsAPeriod : Obligations.StartBeginsAPeriod := by
  refine fun s => ⟨fun hrun => ?_, fun hrun => ?_⟩
  all_goals
    rw [exec, execStart, hrun]
    rfl

/-- Settles O15: the response comes on top of the stopped clock. -/
theorem stopDiscardsThePendingTick : Obligations.StopDiscardsThePendingTick :=
  fun s => congrArg Host.Outcome.next s.stopClock.respondHandled_eq

/-! ### What a run keeps -/

/-- Induction along a run: what each of its steps keeps holds at its end. -/
theorem RunWhere.keeps {P Q : State → Prop} {s t : State} (hrun : RunWhere P s t)
    (hkeep : ∀ u v, P u → Machine.step u = .next v → Q u → Q v) (hs : Q s) : Q t := by
  induction hrun with
  | refl => exact hs
  | step _ hP hstep ih => exact hkeep _ _ hP hstep ih

theorem State.no_control_of_timerDomain {s : State} (h : s.TimerDomain) : ¬ s.AcceptsWord ∧ ¬ s.TakesPhase2 := by
  apply State.no_control_of_turn_ne
  obtain ⟨-, hturn | hturn | hturn | ⟨lines, hturn⟩⟩ := h <;> simp [hturn]

theorem freq_of_timerDomain {s t : State} (hd : s.TimerDomain) (h : step s = .next t) : t.freq = s.freq := by
  obtain heq | ⟨hrst, -⟩ | ⟨ep, prop, hi, -⟩ := registryHasTwoWriters s t h
  · exact heq
  · simp [hd.1] at hrst
  · exact absurd hi.1 (State.no_control_of_timerDomain hd).1

theorem reload_of_timerDomain {s t : State} (hd : s.TimerDomain) (h : step s = .next t) : t.reload = s.reload := by
  obtain ⟨heq, -⟩ | ⟨hrst, -⟩ | ⟨f, hi, -⟩ | ⟨h2, -⟩ := reloadHasThreeWriters s t h
  · exact heq
  · simp [hd.1] at hrst
  · exact absurd hi.1 (State.no_control_of_timerDomain hd).1
  · exact absurd h2 (State.no_control_of_timerDomain hd).2

theorem RunWhere.timerDomain_frame {s t : State} (hrun : RunWhere State.TimerDomain s t) :
    t.params = s.params ∧ t.freq = s.freq ∧ t.reload = s.reload := by
  refine hrun.keeps (Q := fun u => u.params = s.params ∧ u.freq = s.freq ∧ u.reload = s.reload)
    (fun u v hd hstep hu => ?_) ⟨rfl, rfl, rfl⟩
  rwa [step_keeps_params hstep, freq_of_timerDomain hd hstep, reload_of_timerDomain hd hstep]

/-! ### CONFIGURE twice (R106) -/

/-- What CONFIGURE answers, and whether and what it writes, depends on the parameters and its operand alone. -/
theorem configure_effect {s t : State} {f : Freq} (h : exec (.configure f) s = .next t) :
    t.params = s.params ∧ t.freq = s.freq ∧ t.run = s.run ∧ t.count = s.count ∧ t.tickPending = s.tickPending ∧
      t.resp = (if s.params.reloadValid f.toNat then 0x01#8 else 0x03#8) ∧
      t.reload = (s.params.reloadField f.toNat).getD s.reload := by
  cases exec_next_cases h with
  | configured _ r hf ht => simp [ht, hf, reloadValid_of_reloadField hf]
  | configureFailed _ hf ht => simp [ht, hf, (reloadField_eq_none_iff _ _).2 hf]

/-- Settles O13: between the two commands RELOAD, FREQ and the parameters stay, and the second command writes over RELOAD
what the first has put there. -/
theorem configureIsIdempotent : Obligations.ConfigureIsIdempotent := by
  intro s a b c f ha hrun hc
  obtain ⟨hparams, hfreq, -, -, -, hresp, hreload⟩ := configure_effect ha
  obtain ⟨hparams', hfreq', hreload'⟩ := hrun.timerDomain_frame
  obtain ⟨-, hcfreq, hcrun, hccount, hcpending, hcresp, hcreload⟩ := configure_effect hc
  rw [hparams', hparams] at hcresp hcreload
  have hsame : c.reload = b.reload := by
    rw [hcreload, hreload', hreload]
    cases s.params.reloadField f.toNat <;> rfl
  exact ⟨hsame.trans hreload', hsame, hcrun, hccount, hcpending, hcfreq, hfreq'.trans hfreq, hcresp.trans hresp.symm⟩

/-! ### From STOP to START (R121) -/

/-- The clock is stopped and no tick is pending. -/
def State.Silent (s : State) : Prop := s.run = .stopped ∧ s.tickPending = false

theorem silent_of_stop {s t : State} (h : exec .stop s = .next t) : t.Silent := by
  cases exec_next_cases h with
  | stopped ht => exact ht ▸ ⟨rfl, rfl⟩

/-- Only START ends the silence: the timer requests no tick of a stopped clock. -/
theorem step_keeps_silent {s t : State} (hstart : ¬ s.Accepts .start) (h : step s = .next t) (hs : s.Silent) :
    t.Silent := by
  obtain ⟨hrun, hpend⟩ := hs
  constructor
  · obtain heq | ⟨hi, -⟩ | ⟨-, ht⟩ | ⟨-, ht⟩ := step_run h
    · exact heq.trans hrun
    · exact absurd hi hstart
    · exact ht
    · exact ht
  · obtain heq | ⟨-, hrunning, -⟩ | ⟨-, ht⟩ | ⟨-, -, ht⟩ | ⟨-, ht⟩ | ⟨-, ht⟩ := step_tickPending h
    · exact heq.trans hpend
    · cases hrun.symm.trans hrunning
    all_goals exact ht

theorem timerClock_of_stopped {s : State} (hrun : s.run = .stopped) : timerClock s = s := by
  simp [timerClock, hrun]

/-- Settles O30: STOP begins the silence and each step of the run keeps it. -/
theorem noTickBetweenStopAndStart : Obligations.NoTickBetweenStopAndStart := by
  refine ⟨fun _ => timerClock_of_stopped, fun s a t hstop hrun => ?_⟩
  obtain ⟨hstopped, hpend⟩ : t.Silent :=
    hrun.keeps (fun _ _ hstart hstep => step_keeps_silent hstart hstep) (silent_of_stop hstop)
  exact ⟨hstopped, hpend, fun ⟨_, _, htick⟩ => nomatch hpend.symm.trans htick⟩

end Sys2Proof.Machine
end

section
/-! The timer-clock event and the length of a period (40_sample_clock.md R103, R120, R122). -/

namespace Sys2Proof.Machine

variable {r : Nat} {s : State}

/-- COUNT + 1 is not cut where COUNT is below a RELOAD of W bits. -/
theorem truncW_succ_of_lt {p : Params} {c : Nat} (hc : c < r) (hfit : r < 2 ^ p.timerWidth) :
    p.truncW (c + 1) = c + 1 :=
  Nat.mod_eq_of_lt (by omega)

/-! ### The event, case by case (R120) -/

theorem timerClock_of_lt (hrun : s.run = .running) (hc : s.count < s.reload) : timerClock s = s.countUp := by
  simp [timerClock, hrun, hc]

/-- A request while a tick is pending merges into it (60_exceptions.md R204). -/
theorem timerClock_of_ge (hrun : s.run = .running) (hc : s.reload ≤ s.count) :
    timerClock s = if s.tickPending then s.requestTick.recorded .tickOverrun else s.requestTick := by
  simp [timerClock, hrun, hc, State.raise_eq_recorded]

theorem timerClock_frame (s : State) :
    timerClock s = { s with
      count := (timerClock s).count
      tickPending := (timerClock s).tickPending
      outcome := (timerClock s).outcome
      history := (timerClock s).history } := by
  rcases timerClock_cases s with ⟨_, ht⟩ | ⟨_, _, _, ht⟩ | ⟨_, _, _, ht⟩ | ⟨_, _, ht⟩ <;> rw [ht] <;> rfl

/-- Settles O29: the event of each case, on the state whose pulses are over. -/
theorem timerClockEventCounts : Obligations.TimerClockEventCounts := by
  intro s h hfit
  refine ⟨_, step_of_takesTimerClock h, fun hrun => ?_, fun hrun hc => ?_, fun hrun hc => ?_, timerClock_frame _⟩
  · rw [timerClock_of_stopped (s := s.beginStep.takeTimerPulse) hrun]
    exact ⟨rfl, rfl, rfl⟩
  · rw [timerClock_of_ge (s := s.beginStep.takeTimerPulse) hrun hc]
    cases hp : s.tickPending <;> simp [hp]
  · rw [timerClock_of_lt (s := s.beginStep.takeTimerPulse) hrun hc]
    exact ⟨truncW_succ_of_lt hc hfit, rfl, rfl⟩

/-! ### Iterated events of a running clock -/

/-- A running clock whose RELOAD is r and fits its W bits. -/
structure RunsWith (r : Nat) (s : State) : Prop where
  running : s.run = .running
  reload_eq : s.reload = r
  fits : r < 2 ^ s.params.timerWidth

namespace RunsWith

theorem timerClock (h : RunsWith r s) : RunsWith r (timerClock s) := by
  rw [timerClock_frame]
  exact { h with }

theorem iterate (h : RunsWith r s) (n : Nat) : RunsWith r (Machine.timerClock^[n] s) :=
  Function.Iterate.rec (RunsWith r) h (fun _ hs => hs.timerClock) n

theorem timerClock_below (h : RunsWith r s) (hc : s.count < r) :
    (Machine.timerClock s).count = s.count + 1 ∧ (Machine.timerClock s).tickPending = s.tickPending := by
  obtain rfl := h.reload_eq
  rw [timerClock_of_lt h.running hc]
  exact ⟨truncW_succ_of_lt hc h.fits, rfl⟩

/-- At or above RELOAD the event ends the period. -/
theorem timerClock_at (h : RunsWith r s) (hc : r ≤ s.count) :
    (Machine.timerClock s).count = 0 ∧ (Machine.timerClock s).tickPending = true := by
  obtain rfl := h.reload_eq
  rw [timerClock_of_ge h.running hc]
  cases s.tickPending <;> exact ⟨rfl, rfl⟩

/-- The events of the period in progress. -/
theorem iterate_below (h : RunsWith r s) (n : Nat) (hn : n ≤ r - s.count) :
    (Machine.timerClock^[n] s).count = s.count + n ∧ (Machine.timerClock^[n] s).tickPending = s.tickPending := by
  induction n with
  | zero => exact ⟨rfl, rfl⟩
  | succ n ih =>
    obtain ⟨hcount, hpend⟩ := ih (by omega)
    obtain ⟨hcount', hpend'⟩ := (h.iterate n).timerClock_below (by omega)
    rw [Function.iterate_succ_apply', hcount', hpend', hcount]
    exact ⟨rfl, hpend⟩

/-- The event that ends the period in progress. -/
theorem iterate_period_end (h : RunsWith r s) :
    (Machine.timerClock^[r - s.count + 1] s).count = 0 ∧
      (Machine.timerClock^[r - s.count + 1] s).tickPending = true := by
  obtain ⟨hcount, -⟩ := h.iterate_below (r - s.count) le_rfl
  rw [Function.iterate_succ_apply']
  exact (h.iterate _).timerClock_at (by omega)

/-- From the start of a period COUNT goes round 0 to RELOAD, RELOAD + 1 events a round (R103). -/
theorem iterate_of_zero (h : RunsWith r s) (hcount : s.count = 0) (hpend : s.tickPending = true) (n : Nat) :
    (Machine.timerClock^[n] s).count = n % (r + 1) ∧ (Machine.timerClock^[n] s).tickPending = true := by
  induction n with
  | zero => exact ⟨by simpa using hcount, hpend⟩
  | succ n ih =>
    obtain ⟨hn, hp⟩ := ih
    have hle : n % (r + 1) ≤ r := Nat.lt_succ_iff.1 (Nat.mod_lt n (Nat.succ_pos r))
    rw [Function.iterate_succ_apply', ← Nat.mod_add_mod]
    obtain hlt | heq := hle.lt_or_eq
    · obtain ⟨hcount', hpend'⟩ := (h.iterate n).timerClock_below (hn.trans_lt hlt)
      rw [hcount', hpend', hn, Nat.mod_eq_of_lt (Nat.succ_lt_succ hlt)]
      exact ⟨rfl, hp⟩
    · obtain ⟨hcount', hpend'⟩ := (h.iterate n).timerClock_at (hn.trans heq).ge
      rw [heq, Nat.mod_self]
      exact ⟨hcount', hpend'⟩

end RunsWith

/-- Settles O31: the period in progress, the event that ends it, and the rounds of COUNT from there. -/
theorem reloadRulesThePeriod : Obligations.ReloadRulesThePeriod := by
  intro s hrun hfit
  have h : RunsWith s.reload s := ⟨hrun, rfl, hfit⟩
  refine ⟨h.iterate_below, fun n => ?_⟩
  obtain ⟨hcount, hpend⟩ := h.iterate_period_end
  rw [Nat.add_comm _ n, Function.iterate_add_apply]
  exact (h.iterate _).iterate_of_zero hcount hpend n

end Sys2Proof.Machine
end

section
/-! The tick (41_tick_pipeline.md R130 to R134, R142, R143), on the state whose pulses are over. -/

namespace Sys2Proof.Machine

variable {s t : State}

/-! ### The tick, case by case (R130) -/

theorem tick_of_noFrame (hf : s.inputs.fsAvail = false) : tick s = s.enterTick.recorded .frameUnavailable := by
  simp [tick, hf, State.raise_eq_recorded]

theorem tick_of_ready (hf : s.inputs.fsAvail = true) (hr : s.inputs.sinkReady = true) :
    tick s = s.enterTick.readFrame.writeSink (sampleByte s.inputs.fsLeft s.inputs.fsRight) := by
  simp [tick, emitSample, hf, hr]

theorem tick_of_busy (hf : s.inputs.fsAvail = true) (hr : s.inputs.sinkReady = false) :
    tick s = s.enterTick.readFrame.recorded (.sinkBusy (sampleByte s.inputs.fsLeft s.inputs.fsRight)) := by
  simp [tick, emitSample, hf, hr, State.raise_eq_recorded]

/-- R143: besides TICK_PENDING the tick moves only the sink output, its pulses and what the model records. -/
theorem tick_frame (s : State) :
    tick s = { s with
      tickPending := false
      fsRd := (tick s).fsRd
      sinkWe := (tick s).sinkWe
      sinkData := (tick s).sinkData
      sinkDataHasValue := (tick s).sinkDataHasValue
      outcome := (tick s).outcome
      history := (tick s).history } := by
  rcases tick_cases s with ⟨_, ht⟩ | ⟨_, _, ht⟩ | ⟨_, _, ht⟩ <;> rw [ht] <;> rfl

theorem tick_tickPending (s : State) : (tick s).tickPending = false := by
  rw [tick_frame]

theorem eq_tick_of_step (h : s.TakesTick) (hstep : step s = .next t) : t = tick s.beginStep :=
  Host.Outcome.next.inj (hstep.symm.trans (step_of_takesTick h))

/-- Settles O32: the tick of each case, on the state whose pulses are over. -/
theorem tickMovesOneFrame : Obligations.TickMovesOneFrame := by
  intro s h
  refine ⟨_, step_of_takesTick h, tick_tickPending _, fun hf => ?_, fun hf hr => ?_, fun hf hr => ?_⟩
  · rw [tick_of_noFrame (s := s.beginStep) hf]
    exact ⟨rfl, rfl, rfl, rfl⟩
  · rw [tick_of_ready (s := s.beginStep) hf hr]
    exact ⟨rfl, rfl, rfl, rfl, rfl⟩
  · rw [tick_of_busy (s := s.beginStep) hf hr]
    exact ⟨rfl, rfl, rfl, rfl⟩

/-! ### The tick and the control domain (R143) -/

theorem tick_leaves_control (s : State) :
    (tick s).freq = s.freq ∧ (tick s).reload = s.reload ∧ (tick s).run = s.run ∧ (tick s).count = s.count ∧
    (tick s).ctlPhase = s.ctlPhase ∧ (tick s).resp = s.resp ∧ (tick s).dout = s.dout ∧
    (tick s).respValid = s.respValid ∧ (tick s).inputs = s.inputs ∧ (tick s).params = s.params ∧
    (tick s).fcfg = s.fcfg ∧ (tick s).registry = s.registry ∧ (tick s).tickPending = false := by
  rw [tick_frame]
  simp only [and_self]

/-- Settles O33: what a tick leaves, and its outputs, which in each case are those of the lines alone. -/
theorem tickIsBlindToTheControlDomain : Obligations.TickIsBlindToTheControlDomain := by
  constructor
  · intro s t h hstep
    obtain rfl := eq_tick_of_step h hstep
    exact tick_leaves_control s.beginStep
  intro s s' t t' h h' havail hleft hright hready hdata hstep hstep'
  obtain rfl := eq_tick_of_step h hstep
  obtain rfl := eq_tick_of_step h' hstep'
  cases hf : s.inputs.fsAvail with
  | false =>
    rw [tick_of_noFrame (s := s.beginStep) hf, tick_of_noFrame (s := s'.beginStep) (havail ▸ hf)]
    simp [hdata]
  | true =>
    cases hr : s.inputs.sinkReady with
    | true =>
      rw [tick_of_ready (s := s.beginStep) hf hr, tick_of_ready (s := s'.beginStep) (havail ▸ hf) (hready ▸ hr)]
      simp [hleft, hright]
    | false =>
      rw [tick_of_busy (s := s.beginStep) hf hr, tick_of_busy (s := s'.beginStep) (havail ▸ hf) (hready ▸ hr)]
      simp [hdata, hleft, hright]

/-! ### Frame reads and sink writes (R142) -/

theorem readFrame_frameReads (s : State) : s.readFrame.frameReads = s.frameReads + 1 := List.countP_cons_of_pos rfl

theorem writeSink_sinkWrites (s : State) (b : Byte) : (s.writeSink b).sinkWrites = s.sinkWrites + 1 :=
  List.countP_cons_of_pos rfl

/-- What a step does on the ports of the frame source and the sink: nothing, or the one frame and the one byte of a tick. -/
theorem step_sample_ports (h : step s = .next t) :
    (t.fsRd = false ∧ t.sinkWe = false ∧ t.frameReads = s.frameReads ∧ t.sinkWrites = s.sinkWrites) ∨
    (s.TakesTick ∧ t.fsRd = true ∧ t.frameReads = s.frameReads + 1 ∧
      t.sinkWrites = s.sinkWrites + if t.sinkWe then 1 else 0) := by
  cases step_next_effect h with
  | sunk hk => exact .inr ⟨hk, rfl, readFrame_frameReads s.beginStep.enterTick, writeSink_sinkWrites _ _⟩
  | dropped hk => exact .inr ⟨hk, rfl, readFrame_frameReads s.beginStep.enterTick, rfl⟩
  | _ => exact .inl ⟨rfl, rfl, rfl, rfl⟩

theorem step_sinkWrites_le (h : step s = .next t) : t.sinkWrites ≤ s.sinkWrites + if s.TakesTick then 1 else 0 := by
  obtain ⟨-, -, -, hwrites⟩ | ⟨hk, -, -, hwrites⟩ := step_sample_ports h
  · omega
  · rw [hwrites, if_pos hk]
    split <;> omega

theorem ticksTaken_succ (n : Nat) (h : step s = .next t) :
    ticksTaken (n + 1) s = (if s.TakesTick then 1 else 0) + ticksTaken n t := by
  simp [ticksTaken, h]

/-- The first step of a run that ends in a next state. -/
theorem step_next_of_run_succ {n : Nat} (h : Host.Core.run core (n + 1) s = .next t) :
    ∃ u, step s = .next u ∧ Host.Core.run core n u = .next t := by
  cases hstep : step s with
  | next u => exact ⟨u, rfl, (run_succ_of_next hstep).symm.trans h⟩
  | fault r => cases r
  | refused r => cases (run_succ_of_refused hstep).symm.trans h

/-- Settles O34: the cases of a step, and an induction on the run's length. -/
theorem sinkWritesNeverExceedTicks : Obligations.SinkWritesNeverExceedTicks := by
  refine ⟨fun s t h => ?_, fun n => ?_⟩
  · obtain ⟨hrd, hwe, hreads, hwrites⟩ | ⟨hk, hrd, hreads, hwrites⟩ := step_sample_ports h
    · simp [hrd, hwe, hreads, hwrites]
    · exact ⟨fun _ => hrd, fun _ => hk, hwrites, by rw [hreads, hrd, if_pos rfl]⟩
  · induction n with
    | zero =>
      rintro s _ ⟨⟩
      exact Nat.le_add_right _ _
    | succ n ih =>
      intro s t hrun
      obtain ⟨u, hstep, hrest⟩ := step_next_of_run_succ hrun
      have hfirst := step_sinkWrites_le hstep
      have hlater := ih u t hrest
      rw [ticksTaken_succ n hstep]
      omega

end Sys2Proof.Machine
end

section
/-! The downmix and the bias as integers (41_tick_pipeline.md R135 to R139). Both shifts are divisions that round down, and
no sum of high bytes leaves 16 bits. -/

namespace Sys2Proof.Machine

/-! ### The downmix (R135 to R137) -/

theorem highByte_toInt (x : Sample) : (x.sshiftRight 8).toInt = x.toInt / 256 := by
  rw [BitVec.toInt_sshiftRight, Int.shiftRight_eq_div_pow]
  rfl

theorem highByte_bounds (x : Sample) : -128 ≤ (x.sshiftRight 8).toInt ∧ (x.sshiftRight 8).toInt ≤ 127 := by
  have hlow : -32768 ≤ x.toInt := x.le_toInt
  have hhigh : x.toInt < 32768 := x.toInt_lt
  rw [highByte_toInt]
  omega

/-- R137: the sum of two high bytes is exact in 16 bits. -/
theorem highByte_sum_toInt (l r : Sample) :
    (l.sshiftRight 8 + r.sshiftRight 8).toInt = (l.sshiftRight 8).toInt + (r.sshiftRight 8).toInt := by
  have hl := highByte_bounds l
  have hr := highByte_bounds r
  rw [BitVec.toInt_add]
  exact Int.bmod_eq_of_le_mul_two (by omega) (by omega)

/-- Narrowing keeps the low byte, and so every value that a signed byte can hold. -/
theorem setWidth_toInt_of_bounds (x : Sample) (hlow : -128 ≤ x.toInt) (hhigh : x.toInt ≤ 127) :
    (x.setWidth 8).toInt = x.toInt := by
  rw [← BitVec.signExtend_eq_setWidth_of_le _ (by decide), BitVec.toInt_signExtend_eq_toInt_bmod_of_le _ (by decide)]
  exact Int.bmod_eq_of_le_mul_two (by omega) (by omega)

theorem downmix_toInt (l r : Sample) : (downmix l r).toInt = (l.toInt / 256 + r.toInt / 256) / 2 := by
  have hl := highByte_bounds l
  have hr := highByte_bounds r
  have hhalf : ((l.sshiftRight 8 + r.sshiftRight 8).sshiftRight 1).toInt =
      ((l.sshiftRight 8).toInt + (r.sshiftRight 8).toInt) / 2 := by
    rw [BitVec.toInt_sshiftRight, highByte_sum_toInt, Int.shiftRight_eq_div_pow]
    rfl
  rw [downmix, setWidth_toInt_of_bounds _ (by omega) (by omega), hhalf, highByte_toInt, highByte_toInt]

/-- Settles O36: the bounds of the high bytes, and the sum and the narrowing that they make exact. -/
theorem downmixNeverOverflows : Obligations.DownmixNeverOverflows := by
  refine ⟨fun l r => ?_, by decide, by decide⟩
  obtain ⟨hllow, hlhigh⟩ := highByte_bounds l
  obtain ⟨hrlow, hrhigh⟩ := highByte_bounds r
  exact ⟨hllow, hlhigh, highByte_sum_toInt l r, by omega, by omega, downmix_toInt l r⟩

/-- Settles O37: the frames of R135 and R136, evaluated. -/
theorem truncationComesBeforeAveraging : Obligations.TruncationComesBeforeAveraging := by
  unfold Obligations.TruncationComesBeforeAveraging
  decide

/-! ### The bias and the sample byte (R138, R139) -/

/-- A carry out of the top bit is lost, so that to flip this bit is to add it. -/
theorem bias_eq_add (m : Byte) : bias m = m + 0x80#8 := by
  revert m
  decide

theorem bias_toNat (m : Byte) : ((bias m).toNat : Int) = m.toInt + 128 := by
  have hsum : (bias m).toNat = (m.toNat + 128) % 256 := by
    rw [bias_eq_add, BitVec.toNat_add]
    rfl
  rw [BitVec.toInt_eq_toNat_cond]
  omega

theorem bias_involutive : Function.Involutive bias := fun m => by
  rw [bias, bias, BitVec.xor_assoc, BitVec.xor_self, BitVec.xor_zero]

/-- Settles O38: the bias undoes itself. -/
theorem biasIsABijection : Obligations.BiasIsABijection :=
  ⟨bias_involutive.bijective, fun m => ⟨bias_toNat m, rfl⟩, rfl, rfl, rfl, rfl⟩

/-- Settles O35: the bias of the downmix, both as integers. -/
theorem sampleByteAsIntegers : Obligations.SampleByteAsIntegers := fun l r => by
  rw [sampleByte, bias_toNat, downmix_toInt]

end Sys2Proof.Machine
end

section
/-! The control requests, command by command (42_control_protocol.md R161 to R165, R170, R174, R175): what SET, GET and
CTRL_OTHER lead to, as equations for `exec`, and the fields of their responses. -/

namespace Sys2Proof.Machine

variable {s t : State} {ep prop : Byte}

/-! ### The fields of a response (10_state.md R27) -/

/-- A packed response is read back field by field. -/
theorem State.flags_of_resp {handled cfgErr illegal : Bool} {outLen : BitVec 4}
    (h : s.resp = packResp handled cfgErr illegal outLen) :
    s.handled = handled ∧ s.cfgErr = cfgErr ∧ s.illegal = illegal ∧ s.respReserved = false ∧ s.outLen = outLen := by
  simp only [State.handled, State.cfgErr, State.illegal, State.respReserved, State.outLen, h, packResp,
    BitVec.extractLsb, BitVec.getLsbD_append]
  refine ⟨by simp, by simp, by simp, by simp, BitVec.eq_of_getLsbD_eq fun i hi => ?_⟩
  simp only [BitVec.getLsbD_extractLsb', BitVec.getLsbD_append]
  simp [hi]

/-! ### The requests as equations -/

/-- Every command answers, so its cases say what it leads to. -/
theorem exec_eq_next {i : Instr} {u : State} (h : ∀ t, CommandCase s t i → t = u) : exec i s = .next u := by
  obtain ⟨t, ht⟩ := exec_answers i s
  rw [ht, h t (exec_next_cases ht)]

theorem exec_ctrlSetCur_of_addresses (ha : s.Addresses ep prop) (lp : Bool) :
    exec (.ctrlSetCur ep prop lp) s =
      .next (if lp then (s.writeFreq s.inputs.din).openWindow else s.answered 0x01#8) := by
  refine exec_eq_next fun t hcase => ?_
  cases hcase with
  | setStored _ _ _ ht => exact ht
  | setProbed _ _ _ ht => exact ht
  | setRejected _ _ _ hn => exact absurd ha hn

theorem exec_ctrlGetCur_of_addresses (ha : s.Addresses ep prop) (lp : Bool) :
    exec (.ctrlGetCur ep prop lp) s =
      .next (if lp then (s.writeOB (encode24 s.freq)).answered 0x31#8 else s.answered 0x01#8) := by
  refine exec_eq_next fun t hcase => ?_
  cases hcase with
  | gotten _ _ _ ht => exact ht
  | getProbed _ _ _ ht => exact ht
  | getRejected _ _ _ hn => exact absurd ha hn

theorem exec_ctrlSetCur_of_not_addresses (hn : ¬ s.Addresses ep prop) (lp : Bool) :
    exec (.ctrlSetCur ep prop lp) s = .next ((s.answered 0x00#8).recorded (.unrecognizedRequest ep prop)) := by
  refine exec_eq_next fun t hcase => ?_
  cases hcase with
  | setStored _ _ ha => exact absurd ha hn
  | setProbed _ _ ha => exact absurd ha hn
  | setRejected _ _ _ _ ht => exact ht

theorem exec_ctrlGetCur_of_not_addresses (hn : ¬ s.Addresses ep prop) (lp : Bool) :
    exec (.ctrlGetCur ep prop lp) s = .next ((s.answered 0x00#8).recorded (.unrecognizedRequest ep prop)) := by
  refine exec_eq_next fun t hcase => ?_
  cases hcase with
  | gotten _ _ ha => exact absurd ha hn
  | getProbed _ _ ha => exact absurd ha hn
  | getRejected _ _ _ _ ht => exact ht

theorem exec_ctrlOther_eq (s : State) (ep prop : Byte) (lp : Bool) :
    exec (.ctrlOther ep prop lp) s = .next ((s.answered 0x00#8).recorded (.unrecognizedRequest ep prop)) := by
  refine exec_eq_next fun t hcase => ?_
  cases hcase with
  | otherRejected _ _ _ ht => exact ht

/-! ### SET, probes and what is not recognised (R163 to R165, R174) -/

/-- Settles O16: the recognised SET with LP = 1. -/
theorem setStoresThePayload : Obligations.SetStoresThePayload :=
  fun _ _ _ ha => exec_ctrlSetCur_of_addresses ha true

/-- Settles O17: CTRL_OTHER always, SET and GET where they are not recognised. -/
theorem unrecognisedRequestTouchesNothing : Obligations.UnrecognisedRequestTouchesNothing :=
  fun s ep prop lp => ⟨exec_ctrlOther_eq s ep prop lp, fun hn =>
    ⟨exec_ctrlSetCur_of_not_addresses hn lp, exec_ctrlGetCur_of_not_addresses hn lp⟩⟩

/-- Settles O18: the recognised SET and GET with LP = 0. -/
theorem probeTouchesNothing : Obligations.ProbeTouchesNothing :=
  fun _ _ _ ha => ⟨exec_ctrlSetCur_of_addresses ha false, exec_ctrlGetCur_of_addresses ha false⟩

/-- Settles O20: the word is that of format C, and the request is rejected without a look at EP, PROP or LP. -/
theorem ctrlOtherIsNeverHandled : Obligations.CtrlOtherIsNeverHandled := by
  intro s ep prop lp
  refine ⟨toNat_formatC ep prop lp 0x6#4, _, exec_ctrlOther_eq s ep prop lp, rfl, ?_, rfl, rfl⟩
  exact (State.flags_of_resp packResp_rejected.symm).1

/-! ### GET (R170) -/

/-- The bytes of `Encode24(f)` in OB are f in DOUT (20_memory.md R51, R52). -/
theorem State.writeOB_encode24 (s : State) (f : Freq) :
    s.writeOB (encode24 f) = { s with dout := f, doutHasValue := true } := by
  simp [State.writeOB]

/-- Settles O19: DOUT is FREQ, whose bytes are OB. -/
theorem getReportsTheRegistry : Obligations.GetReportsTheRegistry := by
  intro s ep prop ha
  have hget := exec_ctrlGetCur_of_addresses ha true
  rw [if_pos rfl, State.writeOB_encode24] at hget
  have hhigh : s.freq.toNat / 65536 < 256 := by omega
  refine ⟨_, hget, ?_, ?_, ?_, ?_, rfl, rfl⟩
  · exact (payloadByte_toNat s.freq 0).trans (by simp)
  · exact (payloadByte_toNat s.freq 1).trans (by simp)
  · exact (payloadByte_toNat s.freq 2).trans (by simpa using Nat.mod_eq_of_lt hhigh)
  · obtain ⟨-, -, -, -, houtLen⟩ := State.flags_of_resp (s := s.answered 0x31#8) packResp_getCur.symm
    exact houtLen

/-! ### Both endpoints (R161, R162) -/

theorem playEpAddr_ne_capEpAddr {p : Params} (hp : p.wellFormed = true) : p.playEpAddr ≠ p.capEpAddr := by
  simp only [Params.wellFormed, Bool.and_eq_true, decide_eq_true_eq] at hp
  obtain ⟨⟨-, hdistinct⟩, -⟩ := hp
  exact hdistinct

/-- Settles O21: both addresses are recognised, and a recognised request does not look at its endpoint again. -/
theorem bothEndpointsActAlike : Obligations.BothEndpointsActAlike := by
  intro s lp hp
  have hplay : s.Addresses s.params.playEpAddr 0x01#8 := ⟨rfl, .inl rfl⟩
  have hcap : s.Addresses s.params.capEpAddr 0x01#8 := ⟨rfl, .inr rfl⟩
  refine ⟨if_pos rfl, (if_neg (playEpAddr_ne_capEpAddr hp).symm).trans (if_pos rfl), ?_, ?_⟩
  · rw [exec_ctrlSetCur_of_addresses hcap, exec_ctrlSetCur_of_addresses hplay]
  · rw [exec_ctrlGetCur_of_addresses hcap, exec_ctrlGetCur_of_addresses hplay]

/-! ### RESP after a request that answers (R175) -/

/-- A SET that stores its payload leaves CTL_PHASE at SET_RECONF; every other request answers 0x01, 0x31 or 0x00. -/
theorem resp_of_control {i : Instr} {lp : Bool}
    (hi : i = .ctrlSetCur ep prop lp ∨ i = .ctrlGetCur ep prop lp ∨ i = .ctrlOther ep prop lp)
    (h : exec i s = .next t) (hidle : t.ctlPhase = .idle) :
    ∃ handled outLen, t.resp = packResp handled false false outLen ∧
      (handled = true ↔ i ≠ .ctrlOther ep prop lp ∧ s.Addresses ep prop) := by
  rcases hi with rfl | rfl | rfl
  · cases exec_next_cases h with
    | setStored _ _ _ ht => simp [ht, State.openWindow] at hidle
    | setProbed _ _ ha ht => exact ⟨true, 0#4, ht ▸ rfl, iff_of_true rfl ⟨nofun, ha⟩⟩
    | setRejected _ _ _ hn ht => exact ⟨false, 0#4, ht ▸ rfl, iff_of_false nofun fun h => hn h.2⟩
  · cases exec_next_cases h with
    | gotten _ _ ha ht => exact ⟨true, 3#4, ht ▸ rfl, iff_of_true rfl ⟨nofun, ha⟩⟩
    | getProbed _ _ ha ht => exact ⟨true, 0#4, ht ▸ rfl, iff_of_true rfl ⟨nofun, ha⟩⟩
    | getRejected _ _ _ hn ht => exact ⟨false, 0#4, ht ▸ rfl, iff_of_false nofun fun h => hn h.2⟩
  · cases exec_next_cases h with
    | otherRejected _ _ _ ht => exact ⟨false, 0#4, ht ▸ rfl, iff_of_false nofun fun h => h.1 rfl⟩

/-- Settles O22: the fields of the response that `resp_of_control` names. -/
theorem handledExactlyWhenRecognised : Obligations.HandledExactlyWhenRecognised := by
  intro s t ep prop lp i hi h hphase hidle
  obtain ⟨handled, outLen, hresp, hiff⟩ := resp_of_control hi h (hphase.trans hidle)
  obtain ⟨hhandled, hcfgErr, hillegal, hreserved, -⟩ := State.flags_of_resp hresp
  exact ⟨hhandled ▸ hiff, hcfgErr, hillegal, hreserved⟩

end Sys2Proof.Machine
end

section
/-! Phase 2 of SET, and the round trip of SET and GET (42_control_protocol.md R166, R167, R171). -/

namespace Sys2Proof.Machine

variable {s t : State}

/-! ### Phase 2 (R166, R167) -/

/-- Settles O27: both cases of phase 2 close the window and answer 0x01; a valid FREQ gives RELOAD the quotient less
one, and an invalid one is recorded. -/
theorem failedSetIsSwallowed : Obligations.FailedSetIsSwallowed := by
  intro s h
  refine ⟨_, step_of_takesPhase2 h, ?_⟩
  cases reconfigure_cases s.beginStep with
  | configured r hf ht =>
    have hvalid : s.params.reloadValid s.freq.toNat = true := reloadValid_of_reloadField hf
    obtain ⟨-, hquotient, -, -⟩ := (reloadField_eq_some_iff s.params s.freq.toNat r).1 hf
    rw [Params.clockRatio] at hquotient
    simp [ht, hvalid, hquotient, State.handled, State.cfgErr]
  | failed hf ht =>
    have hinvalid : s.params.reloadValid s.freq.toNat = false := hf
    simp [ht, hinvalid, State.handled, State.cfgErr]

theorem freq_of_takesPhase2 (h : s.TakesPhase2) (hstep : step s = .next t) : t.freq = s.freq := by
  obtain ⟨hlive, -, hphase⟩ := h
  obtain heq | ⟨hrst, -⟩ | ⟨_, _, hi, -⟩ := registryHasTwoWriters s t hstep
  · exact heq
  · simp [hlive.2] at hrst
  · simp [State.ctlPhase_of_acceptsWord hi.1] at hphase

/-! ### SET, then GET (R171) -/

theorem freq_of_accepts_set {ep prop : Byte} (hi : s.Accepts (.ctrlSetCur ep prop true)) (ha : s.Addresses ep prop)
    (hstep : step s = .next t) : t.freq = s.inputs.din := by
  rw [step_of_accepts hi, exec_ctrlSetCur_of_addresses (s := s.beginStep.acceptCommand) ha] at hstep
  obtain rfl := Host.Outcome.next.inj hstep
  rfl

theorem dout_of_accepts_get {ep prop : Byte} (hi : s.Accepts (.ctrlGetCur ep prop true)) (ha : s.Addresses ep prop)
    (hstep : step s = .next t) : t.dout = s.freq ∧ t.resp = 0x31#8 ∧ t.freq = s.freq := by
  rw [step_of_accepts hi, exec_ctrlGetCur_of_addresses (s := s.beginStep.acceptCommand) ha] at hstep
  obtain rfl := Host.Outcome.next.inj hstep
  exact ⟨joinBytes_encode24 s.freq, rfl, rfl⟩

/-- Settles O28: phase 1 puts the payload into FREQ, which neither phase 2 nor the timer domain writes before GET copies
it to DOUT. -/
theorem setThenGetRoundTrip : Obligations.SetThenGetRoundTrip := by
  intro s s1 s2 s3 s4 s5 ep ep' hset hget haccept hstep1 hrun1 hphase2 hstep3 hrun2 haccept' hstep5
  obtain ⟨hparams2, hfreq2, -⟩ := hrun1.timerDomain_frame
  obtain ⟨hparams4, hfreq4, -⟩ := hrun2.timerDomain_frame
  have hparams : s4.params = s.params := by
    rw [hparams4, step_keeps_params hstep3, hparams2, step_keeps_params hstep1]
  have hfreq : s4.freq = s.inputs.din := by
    rw [hfreq4, freq_of_takesPhase2 hphase2 hstep3, hfreq2, freq_of_accepts_set haccept hset hstep1]
  have hget' : s4.Addresses ep' 0x01#8 := by rwa [State.Addresses, hparams]
  obtain ⟨hdout, hresp, hkept⟩ := dout_of_accepts_get haccept' hget' hstep5
  rw [hfreq] at hdout hkept
  exact ⟨hdout, fun k => congrArg (payloadByte · k) hdout, hresp, hkept⟩

end Sys2Proof.Machine
end

section
/-! A pending tick is taken or discarded (60_exceptions.md R206): every step uses up one turn of the schedule, and with
none left the next step is the tick or the reset step (log 8). -/

namespace Sys2Proof.Machine

variable {s t : State}

theorem step_schedule (h : step s = .next t) : t.schedule = s.schedule.tail := by
  cases step_next_effect h <;> rfl

/-! ### With the schedule used up the pending tick ends -/

theorem step_of_takesReset (h : s.TakesReset) : step s = agentTurn s.turn (resetStep s.beginStep) := by
  obtain ⟨hp, hrst⟩ := h
  simp [step, hp, takeTurn, rstTurn, hrst]

/-- Under reset TICK_PENDING goes to 0, whichever turn it is (70_reset_and_hazards.md R230, R231). -/
theorem tickPending_of_takesReset (h : s.TakesReset) (hstep : step s = .next t) : t.tickPending = false := by
  have hagent := (step_of_takesReset h).symm.trans hstep
  rcases agentTurn_under_reset (by simpa using h.2) hagent with rfl | ⟨_, _, rfl⟩ | ⟨_, _, rfl⟩ <;> rfl

/-- The model's fixed order puts only reset before a pending tick (log 8). -/
theorem State.takesTick_of_schedule_nil (hlive : s.Live) (hpend : s.tickPending = true) (hnil : s.schedule = []) :
    s.TakesTick :=
  ⟨hlive, by simp [State.turn, hnil, State.freeTurn, hlive.2, hpend], hpend⟩

theorem tickPending_of_schedule_nil (hpend : s.tickPending = true) (hnil : s.schedule = []) (h : step s = .next t) :
    t.tickPending = false := by
  have hp := step_next_params h
  cases hrst : s.inputs.rst with
  | true => exact tickPending_of_takesReset ⟨hp, hrst⟩ h
  | false =>
    rw [eq_tick_of_step (State.takesTick_of_schedule_nil ⟨hp, hrst⟩ hpend hnil) h, tick_tickPending]

/-! ### The step that ends it -/

/-- A tick is pending, and the next step takes it or discards it by STOP, by START from Stopped or by reset. -/
def State.EndsPendingTick (s : State) : Prop :=
  s.tickPending = true ∧
  (s.TakesTick ∨ s.Accepts .stop ∨ (s.run = .stopped ∧ s.Accepts .start) ∨ s.inputs.rst = true) ∧
  ∃ t, step s = .next t ∧ t.tickPending = false

/-- Of the writers of TICK_PENDING these are the ones that clear it. -/
theorem State.endsPendingTick_of_step (hpend : s.tickPending = true) (h : step s = .next t)
    (hclear : t.tickPending = false) : s.EndsPendingTick := by
  refine ⟨hpend, ?_, t, h, hclear⟩
  obtain heq | ⟨-, -, -, hraised⟩ | ⟨htick, -⟩ | ⟨hstart, hrun, -⟩ | ⟨hstop, -⟩ | ⟨hrst, -⟩ := step_tickPending h
  · simp [hclear, hpend] at heq
  · simp [hclear] at hraised
  · exact .inl htick
  · exact .inr (.inr (.inl ⟨hrun, hstart⟩))
  · exact .inr (.inl hstop)
  · exact .inr (.inr (.inr hrst))

/-- Settles O58, by induction on the schedule: a step that leaves the tick pending leaves one turn fewer. -/
theorem pendingTickIsTakenEventually : Obligations.PendingTickIsTakenEventually := by
  intro s
  induction hsched : s.schedule generalizing s with
  | nil =>
    intro hp hpend
    obtain ⟨t, ht⟩ := step_answers hp
    have hclear := tickPending_of_schedule_nil hpend hsched ht
    exact ⟨0, s, le_rfl, rfl, State.endsPendingTick_of_step hpend ht hclear⟩
  | cons turn turns ih =>
    intro hp hpend
    obtain ⟨t, ht⟩ := step_answers hp
    cases hkept : t.tickPending with
    | false => exact ⟨0, s, Nat.zero_le _, rfl, State.endsPendingTick_of_step hpend ht hkept⟩
    | true =>
      have hrest : t.schedule = turns := by rw [step_schedule ht, hsched, List.tail_cons]
      obtain ⟨n, u, hn, hrun, hends⟩ := ih t hrest (by rwa [step_keeps_params ht]) hkept
      exact ⟨n + 1, u, Nat.succ_le_succ hn, (run_succ_of_next ht).trans hrun, hends⟩

end Sys2Proof.Machine
end

section
/-! Reset and hazards (70_reset_and_hazards.md R230 to R232, R235): the step under reset, read off once for every turn, the
refused parameters, and the parameters along a run. -/

namespace Sys2Proof.Machine

variable {s t : State}

/-! ### The step under reset (R230, R231) -/

/-- The reset step leaves no register behind an output port with a value (log 21). -/
theorem resetStep_readPort_portRead (s : State) (port : OutputPort) :
    ((resetStep s).readPort port).portRead = .faulted port := by
  cases port <;> rfl

/-- Whoever's turn it is, a step under reset ends in the reset state: the environment may change the lines, and a read
faults (log 21). -/
theorem step_under_reset (hrst : s.inputs.rst = true) (h : step s = .next t) :
    ∃ lines r, t = { resetStep s.beginStep with inputs := lines, portRead := r } ∧
      (lines = s.inputs ∨ s.turn = .env lines) ∧
      (r = .noRead ∨ ∃ port, s.turn = .read port ∧ r = .faulted port) := by
  have hagent := (step_of_takesReset ⟨step_next_params h, hrst⟩).symm.trans h
  obtain rfl | ⟨lines, hturn, rfl⟩ | ⟨port, hturn, rfl⟩ := agentTurn_under_reset (by simpa using hrst) hagent
  · exact ⟨s.inputs, .noRead, rfl, .inl rfl, .inl rfl⟩
  · exact ⟨lines, .noRead, rfl, .inr hturn, .inl rfl⟩
  · exact ⟨s.inputs, _, rfl, .inl rfl, .inr ⟨port, hturn, resetStep_readPort_portRead _ port⟩⟩

/-- RELOAD after reset, as a quotient of the parameters (R100, R230). -/
theorem reloadAtReset_succ {p : Params} (hp : p.wellFormed = true) :
    (p.reloadField p.initFreq.toNat).getD 0 + 1 = p.baseClk / p.prescaler / p.initFreq.toNat := by
  obtain ⟨-, hquotient, -, -⟩ := (reloadField_eq_some_iff _ _ _).1 (reloadField_initFreq hp)
  exact hquotient.symm

/-- R230: parameters whose initial frequency cannot be configured are ill formed. -/
theorem wellFormed_of_initFreq_invalid {p : Params} (h : p.reloadValid p.initFreq.toNat = false) :
    p.wellFormed = false := by
  simp [Params.wellFormed, h]

/-- A read faults where the register has no value or reset takes it away in that turn. -/
theorem step_of_valuelessRead {port : OutputPort} (hp : s.params.wellFormed = true) (hturn : s.turn = .read port)
    (hnone : s.portHasValue port = false ∨ s.inputs.rst = true) :
    ∃ t, step s = .next t ∧ t.portRead = .faulted port :=
  ⟨_, step_of_read hp hturn, (readPort_faulted_iff _ _ _).2 ⟨rfl, (rstTurn_portHasValue s port).2 hnone⟩⟩

/-- Settles O40: the registers of the reset state, the read turn, and the refusal of `step`. -/
theorem resetStepSetsTheRegisters : Obligations.ResetStepSetsTheRegisters := by
  refine ⟨fun s hreset => ?_, fun s port => step_of_valuelessRead,
    fun s hinvalid => step_of_illFormed (wellFormed_of_initFreq_invalid hinvalid)⟩
  obtain ⟨t, ht⟩ := step_answers hreset.1
  obtain ⟨lines, r, rfl, -, -⟩ := step_under_reset hreset.2 ht
  exact ⟨_, ht, rfl, reloadAtReset_succ hreset.1, rfl, rfl, rfl, rfl, rfl, rfl, rfl, rfl, rfl, rfl⟩

/-- Settles O41: the step ends in the reset state but for the lines and the read, and `cmd_ready` is low under reset. -/
theorem resetExcludesEveryOtherStep : Obligations.ResetExcludesEveryOtherStep := by
  intro s t hrst h
  have hready : s.cmdReady = false := by simp [State.cmdReady, hrst]
  obtain ⟨lines, r, rfl, hlines, hread⟩ := step_under_reset hrst h
  exact ⟨hready, rfl, hlines, hread⟩

/-! ### The parameters and the invariant (R230, R232; 10_state.md R36) -/

/-- Settles O52: no step of the run changes the parameters. -/
theorem configurationNeverChanges : Obligations.ConfigurationNeverChanges :=
  fun s _ hrun => hrun.keeps (Q := fun u => u.params = s.params)
    (fun _ _ _ hstep hu => (step_keeps_params hstep).trans hu) rfl

/-- Settles O56: the initial frequency of well-formed parameters is the one the clock runs at. -/
theorem invariantHoldsAtReset : Obligations.InvariantHoldsAtReset :=
  fun _ => State.atReset_inv

/-! ### The accepting step (R235) -/

/-- Settles O25: the state the command runs on is the one in which the acceptance is recorded. -/
theorem stepRunsTheDecodedCommand : Obligations.StepRunsTheDecodedCommand :=
  fun _ _ => step_of_accepts

end Sys2Proof.Machine
end

section
/-! The frame of the commands, register by register (10_state.md section 3), read off the cases of a command: in each
group of registers the one case that writes it is named, and every other case leaves it. -/

namespace Sys2Proof.Machine

variable {s t : State} {i : Instr}

namespace CommandCase

/-! ### What no command writes -/

theorem ports_and_schedule (h : CommandCase s t i) :
    t.inputs = s.inputs ∧ t.schedule = s.schedule ∧ t.portRead = s.portRead := by
  cases h <;> subst t <;> exact ⟨rfl, rfl, rfl⟩

theorem tick_outputs (h : CommandCase s t i) :
    t.sinkData = s.sinkData ∧ t.sinkDataHasValue = s.sinkDataHasValue ∧ t.fsRd = s.fsRd ∧ t.sinkWe = s.sinkWe := by
  cases h <;> subst t <;> exact ⟨rfl, rfl, rfl, rfl⟩

/-! ### FREQ, CTL_PHASE and the response: the SET that stores its payload (42_control_protocol.md R165) -/

theorem answers_of_not_stored (h : CommandCase s t i)
    (hstore : ¬ ∃ ep prop, i = .ctrlSetCur ep prop true ∧ s.Addresses ep prop) :
    t.freq = s.freq ∧ t.ctlPhase = s.ctlPhase ∧ t.respValid = true ∧ t.respHasValue = true := by
  cases h with
  | setStored ep prop ha => exact absurd ⟨ep, prop, rfl, ha⟩ hstore
  | _ => subst t; exact ⟨rfl, rfl, rfl, rfl⟩

/-- Phase 1 of SET gives no response and records nothing. -/
theorem silent_of_stored (h : CommandCase s t i)
    (hstore : ∃ ep prop, i = .ctrlSetCur ep prop true ∧ s.Addresses ep prop) :
    t.resp = s.resp ∧ t.respValid = s.respValid ∧ t.history = s.history ∧ t.outcome = s.outcome := by
  obtain ⟨ep, prop, rfl, ha⟩ := hstore
  cases h with
  | setStored _ _ _ ht => subst t; exact ⟨rfl, rfl, rfl, rfl⟩
  | setRejected _ _ _ hn => exact absurd ha hn

/-! ### The configuration of the clock: CONFIGURE with a valid frequency (40_sample_clock.md R105) -/

theorem configuration_of_not_configured (h : CommandCase s t i)
    (hvalid : ¬ ∃ f, i = .configure f ∧ s.params.reloadValid f.toNat = true) :
    t.reload = s.reload ∧ t.fcfg = s.fcfg ∧ t.registry = s.registry := by
  cases h with
  | configured f r hf => exact absurd ⟨f, rfl, reloadValid_of_reloadField hf⟩ hvalid
  | _ => subst t; exact ⟨rfl, rfl, rfl⟩

/-! ### RUN, TICK_PENDING and COUNT: STOP, and START from Stopped (40_sample_clock.md R110, R112) -/

theorem run_tickPending_of_not_started_or_stopped (h : CommandCase s t i)
    (hstart : ¬ (i = .start ∧ s.run = .stopped)) (hstop : i ≠ .stop) :
    t.run = s.run ∧ t.tickPending = s.tickPending := by
  cases h with
  | started hrun => exact absurd ⟨rfl, hrun⟩ hstart
  | stopped => exact absurd rfl hstop
  | _ => subst t; exact ⟨rfl, rfl⟩

theorem count_of_not_started (h : CommandCase s t i) (hstart : ¬ (i = .start ∧ s.run = .stopped)) :
    t.count = s.count := by
  cases h with
  | started hrun => exact absurd ⟨rfl, hrun⟩ hstart
  | _ => subst t; rfl

/-! ### DOUT: the GET that reports FREQ (42_control_protocol.md R170) -/

theorem dout_of_not_gotten (h : CommandCase s t i)
    (hget : ¬ ∃ ep prop, i = .ctrlGetCur ep prop true ∧ s.Addresses ep prop) :
    t.dout = s.dout ∧ t.doutHasValue = s.doutHasValue := by
  cases h with
  | gotten ep prop ha => exact absurd ⟨ep, prop, rfl, ha⟩ hget
  | _ => subst t; exact ⟨rfl, rfl⟩

end CommandCase

/-- Settles O24: the frames of the register groups, put together; the bytes of OB are those of DOUT. -/
theorem commandsChangeOnlyTheirRegisters : Obligations.CommandsChangeOnlyTheirRegisters := by
  intro i s t h
  have hcase := exec_next_cases h
  obtain ⟨hinputs, hschedule, hread⟩ := hcase.ports_and_schedule
  obtain ⟨hsink, hsinkValue, hfsRd, hsinkWe⟩ := hcase.tick_outputs
  refine ⟨hcase.params_eq, hinputs, hschedule, hsink, hsinkValue, hfsRd, hsinkWe, hread, hcase.answers_of_not_stored,
    hcase.silent_of_stored, hcase.configuration_of_not_configured, fun hstart hstop => ?_,
    hcase.count_of_not_started, fun hi hrun => ?_, fun hget => ?_⟩
  · exact hcase.run_tickPending_of_not_started_or_stopped (fun hstarted => hstart hstarted.1) hstop
  · exact hcase.run_tickPending_of_not_started_or_stopped (by simp [hrun]) (by simp [hi])
  · obtain ⟨hdout, hvalue⟩ := hcase.dout_of_not_gotten hget
    exact ⟨hdout, hvalue, fun k => congrArg (payloadByte · k) hdout⟩

end Sys2Proof.Machine
end
